-- ==== Sys2Proof/Word.lean ====
section
/-! DEFINITION. The word types of the block: bytes, 16-bit bus words, operation words, addresses.
The spec's own widths are in 00_scope.md R3, R4 and 30_encoding.md R61. -/

namespace Sys2Proof

/-- A byte of a register, of SharedRAM or of a byte access (R4, R10). -/
abbrev Byte := BitVec 8

/-- The data of a 16-bit primary access; bits 15..8 are the byte at the even address (R45, R62). -/
abbrev Half := BitVec 16

/-- The 32-bit operation word of R61. -/
abbrev OpWord := BitVec 32

/-- A 24-bit primary byte address (R40). -/
abbrev PrimaryAddr := BitVec 24

/-- A port number, 0 to 2 (R3: NPORTS = 3). -/
abbrev PortId := Fin 3

end Sys2Proof
end

