-- ==== Sys2Proof/Config.lean ====
section
/-! DEFINITION. What is fixed for the machine: the parameters of 00_scope.md R3, and the free values.
A free value is an opaque constant: nothing can be proved of it but its type, so a claim holds for
every value (R6). -/

namespace Sys2Proof

/-- The two pad variants (R3, D16). -/
inductive PadKind where
  | pad3
  | pad6
  deriving DecidableEq, Repr, Inhabited

namespace Config

/-- SRAM_SIZE (R3): SharedRAM has 0x2000 bytes. -/
abbrev sramSize : Nat := 0x2000

/-- SEL_BIT (R3): the select line is bit 6 of DATA and CTRL. -/
abbrev selBit : Nat := 6

/-- TH_IDLE (R3): the level of a select line that is not driven. -/
abbrev thIdle : Bool := true

/-- STAGE_MAX (R3). -/
abbrev stageMax : Nat := 4

/-- BANK_COUNT_MAX (R3): the shift count saturates here. -/
abbrev bankCountMax : Nat := 9

/-- WINDOW_SIZE (R3): the bank window has 0x8000 bytes. -/
abbrev windowSize : Nat := 0x8000

/-- PAD_KIND[p], an OPEN parameter (R3, D16). Log entry 11. -/
opaque padKind : PortId → PadKind

/-- T_TIMEOUT less its least value 1: an OPEN parameter (R3, D17). Log entry 12. -/
opaque timeoutBeyondOne : Nat

/-- T_TIMEOUT, a natural number of ticks, at least 1 (R3). -/
def timeout : Nat := timeoutBeyondOne + 1

/-- `draw8()`: the argument is the run's draw counter, so each draw is any byte (R6). Log entry 6. -/
opaque draw8 : Nat → BitVec 8

/-- `draw7()` (R166). Log entry 6. -/
opaque draw7 : Nat → BitVec 7

/-- `draw16()` (R6). Log entry 6. -/
opaque draw16 : Nat → BitVec 16

/-- SharedRAM byte `i` after the power-on that took draw `seed`: any value (R29, R250, V7). Log entry 7. -/
opaque sramPowerOn : Nat → Nat → BitVec 8

/-- The answer of primary memory to a byte read at a 24-bit address (R5, R56, U8). Log entry 8. -/
opaque primaryMemRead8 : Nat → BitVec 24 → BitVec 8

/-- The answer of the sound device to a read of register 0 to 3 (R5, U8). Log entry 8. -/
opaque soundRead : Nat → BitVec 2 → BitVec 8

/-- The answer of the video-display processor to a 16-bit read at an even port offset (R5, U8). Log entry 8. -/
opaque vdpRead16 : Nat → BitVec 5 → BitVec 16

end Config

end Sys2Proof
end

