-- ==== Sys2Proof/Syntax.lean ====
section
/-! DEFINITION. What an operation is made of: the operand records (pad snapshot, persisted state), the
request an agent issues (operation word and operands beside it, R61, R62) and the instruction type, one
constructor per row of opcode_table.json. -/

namespace Sys2Proof

/-- A pad snapshot (10_state.md R26): `true` means pressed. -/
structure Pad where
  up : Bool
  down : Bool
  left : Bool
  right : Bool
  start : Bool
  a : Bool
  b : Bool
  c : Bool
  x : Bool
  y : Bool
  z : Bool
  mode : Bool
  deriving DecidableEq, Repr

/-- Every button released. -/
def Pad.released : Pad :=
  ⟨false, false, false, false, false, false, false, false, false, false, false, false⟩

/-- The state of one controller port: its registers (R10), its protocol state (R13 to R15) and its
timer (R16). -/
structure Port where
  /-- DATA[p] (R10). -/
  data : Byte
  /-- CTRL[p] (R10): bit i is 1 when data bit i is an output. -/
  ctrl : Byte
  /-- SERIAL[p] (R10). -/
  serial : Byte
  /-- SEL[p] (R13): `true` is level 1. -/
  sel : Bool
  /-- STAGE[p] (R14). -/
  stage : Nat
  /-- LAST_TOGGLE[p] (R15). -/
  lastToggle : Nat
  /-- TMR_ARMED[p] (R16). -/
  armed : Bool
  /-- TMR_DEADLINE[p] (R16). -/
  deadline : Nat
  /-- TMR_GEN[p] (R16). -/
  tmrGen : Nat
  /-- GEN[p] (R16). -/
  gen : Nat
  deriving DecidableEq, Repr

/-- Written SharedRAM bytes: (index, byte) pairs with strictly rising indices (log entry 7). -/
abbrev Memory := List Host.Cell

/-- The persisted state of the block (10_state.md R38), which is also the operand of H.RESTORE and the
result of H.SAVE. `sramSeed` names the power-on draw that the unwritten bytes of SharedRAM hold. -/
structure Block where
  port0 : Port
  port1 : Port
  port2 : Port
  /-- NOW (R17). -/
  now : Nat
  /-- IS_RESET (R18). -/
  isReset : Bool
  /-- BUS_REQ (R19). -/
  busReq : Bool
  /-- BUS_ACK (R20). -/
  busAck : Bool
  /-- SEC_BUSY (R21). -/
  secBusy : Bool
  /-- BANK_SR (R22). -/
  bankSr : BitVec 9
  /-- BANK_COUNT (R23). -/
  bankCount : Nat
  /-- BANK_BASE (R24). -/
  bankBase : BitVec 24
  /-- The written bytes of SRAM (R25). -/
  sram : Memory
  /-- Which power-on filled the bytes of SRAM that `sram` does not list (R29). Log entries 7, 28. -/
  sramSeed : Nat
  deriving DecidableEq, Repr

/-- The operations, one constructor per row of opcode_table.json. `off` is the low part of ADDR that the
row's mask leaves free; `v`, `dt`, `p`, `g`, `pad` and `r` are the operands beside the word (R62). -/
inductive Instr where
  -- Port 0 registers (40_controller_ports.md)
  /-- P.RB.DATA0 (R103). -/
  | pRbData0
  /-- P.WB.DATA0 (R104). -/
  | pWbData0 (v : Byte)
  /-- P.RW.DATA0 (R103). -/
  | pRwData0
  /-- P.WW.DATA0 (R104). -/
  | pWwData0 (v : Half)
  /-- P.RB.DATA0.HI (R109). -/
  | pRbData0Hi
  /-- P.WB.DATA0.HI (R109). -/
  | pWbData0Hi (v : Byte)
  /-- P.RB.CTRL0 (R105). -/
  | pRbCtrl0
  /-- P.WB.CTRL0 (R106). -/
  | pWbCtrl0 (v : Byte)
  /-- P.RW.CTRL0 (R105). -/
  | pRwCtrl0
  /-- P.WW.CTRL0 (R106). -/
  | pWwCtrl0 (v : Half)
  /-- P.RB.CTRL0.HI (R109). -/
  | pRbCtrl0Hi
  /-- P.WB.CTRL0.HI (R109). -/
  | pWbCtrl0Hi (v : Byte)
  /-- P.RB.SERIAL0 (R107). -/
  | pRbSerial0
  /-- P.WB.SERIAL0 (R108). -/
  | pWbSerial0 (v : Byte)
  /-- P.RW.SERIAL0 (R107). -/
  | pRwSerial0
  /-- P.WW.SERIAL0 (R108). -/
  | pWwSerial0 (v : Half)
  /-- P.RB.SERIAL0.HI (R109). -/
  | pRbSerial0Hi
  /-- P.WB.SERIAL0.HI (R109). -/
  | pWbSerial0Hi (v : Byte)
  -- Port 1 registers
  /-- P.RB.DATA1 (R103). -/
  | pRbData1
  /-- P.WB.DATA1 (R104). -/
  | pWbData1 (v : Byte)
  /-- P.RW.DATA1 (R103). -/
  | pRwData1
  /-- P.WW.DATA1 (R104). -/
  | pWwData1 (v : Half)
  /-- P.RB.DATA1.HI (R109). -/
  | pRbData1Hi
  /-- P.WB.DATA1.HI (R109). -/
  | pWbData1Hi (v : Byte)
  /-- P.RB.CTRL1 (R105). -/
  | pRbCtrl1
  /-- P.WB.CTRL1 (R106). -/
  | pWbCtrl1 (v : Byte)
  /-- P.RW.CTRL1 (R105). -/
  | pRwCtrl1
  /-- P.WW.CTRL1 (R106). -/
  | pWwCtrl1 (v : Half)
  /-- P.RB.CTRL1.HI (R109). -/
  | pRbCtrl1Hi
  /-- P.WB.CTRL1.HI (R109). -/
  | pWbCtrl1Hi (v : Byte)
  /-- P.RB.SERIAL1 (R107). -/
  | pRbSerial1
  /-- P.WB.SERIAL1 (R108). -/
  | pWbSerial1 (v : Byte)
  /-- P.RW.SERIAL1 (R107). -/
  | pRwSerial1
  /-- P.WW.SERIAL1 (R108). -/
  | pWwSerial1 (v : Half)
  /-- P.RB.SERIAL1.HI (R109). -/
  | pRbSerial1Hi
  /-- P.WB.SERIAL1.HI (R109). -/
  | pWbSerial1Hi (v : Byte)
  -- Port 2 registers
  /-- P.RB.DATA2 (R103). -/
  | pRbData2
  /-- P.WB.DATA2 (R104). -/
  | pWbData2 (v : Byte)
  /-- P.RW.DATA2 (R103). -/
  | pRwData2
  /-- P.WW.DATA2 (R104). -/
  | pWwData2 (v : Half)
  /-- P.RB.DATA2.HI (R109). -/
  | pRbData2Hi
  /-- P.WB.DATA2.HI (R109). -/
  | pWbData2Hi (v : Byte)
  /-- P.RB.CTRL2 (R105). -/
  | pRbCtrl2
  /-- P.WB.CTRL2 (R106). -/
  | pWbCtrl2 (v : Byte)
  /-- P.RW.CTRL2 (R105). -/
  | pRwCtrl2
  /-- P.WW.CTRL2 (R106). -/
  | pWwCtrl2 (v : Half)
  /-- P.RB.CTRL2.HI (R109). -/
  | pRbCtrl2Hi
  /-- P.WB.CTRL2.HI (R109). -/
  | pWbCtrl2Hi (v : Byte)
  /-- P.RB.SERIAL2 (R107). -/
  | pRbSerial2
  /-- P.WB.SERIAL2 (R108). -/
  | pWbSerial2 (v : Byte)
  /-- P.RW.SERIAL2 (R107). -/
  | pRwSerial2
  /-- P.WW.SERIAL2 (R108). -/
  | pWwSerial2 (v : Half)
  /-- P.RB.SERIAL2.HI (R109). -/
  | pRbSerial2Hi
  /-- P.WB.SERIAL2.HI (R109). -/
  | pWbSerial2Hi (v : Byte)
  -- Bus-request and reset registers, primary side (42_bus_arbiter.md)
  /-- P.RB.BUSREQ (R166). -/
  | pRbBusreq
  /-- P.WB.BUSREQ (R164). -/
  | pWbBusreq (v : Byte)
  /-- P.RW.BUSREQ (R166). -/
  | pRwBusreq
  /-- P.WW.BUSREQ (R164). -/
  | pWwBusreq (v : Half)
  /-- P.RB.BUSREQ.LO (R172). -/
  | pRbBusreqLo
  /-- P.WB.BUSREQ.LO (R172). -/
  | pWbBusreqLo (v : Byte)
  /-- P.RB.RESET (R167). -/
  | pRbReset
  /-- P.WB.RESET (R168). -/
  | pWbReset (v : Byte)
  /-- P.RW.RESET (R167). -/
  | pRwReset
  /-- P.WW.RESET (R168). -/
  | pWwReset (v : Half)
  /-- P.RB.RESET.LO (R172). -/
  | pRbResetLo
  /-- P.WB.RESET.LO (R172). -/
  | pWbResetLo (v : Byte)
  -- SharedRAM and sound windows, primary side (43_cross_bus_bridge.md)
  /-- P.RB.SRAM (R190). -/
  | pRbSram (off : BitVec 14)
  /-- P.WB.SRAM (R191). -/
  | pWbSram (off : BitVec 14) (v : Byte)
  /-- P.RW.SRAM (R190). -/
  | pRwSram (off : BitVec 14)
  /-- P.WW.SRAM (R191). -/
  | pWwSram (off : BitVec 14) (v : Half)
  /-- P.RB.SND (R192). -/
  | pRbSnd (off : BitVec 13)
  /-- P.WB.SND (R193). -/
  | pWbSnd (off : BitVec 13) (v : Byte)
  /-- P.RW.SND (R192). -/
  | pRwSnd (off : BitVec 13)
  /-- P.WW.SND (R193). -/
  | pWwSnd (off : BitVec 13) (v : Half)
  -- Secondary bus accesses (42_bus_arbiter.md, 43_cross_bus_bridge.md)
  /-- S.RB.SRAM (R194). -/
  | sRbSram (off : BitVec 14)
  /-- S.WB.SRAM (R195). -/
  | sWbSram (off : BitVec 14) (v : Byte)
  /-- S.RB.SND (R200). -/
  | sRbSnd (off : BitVec 13)
  /-- S.WB.SND (R201). -/
  | sWbSnd (off : BitVec 13) (v : Byte)
  /-- S.RB.BANK (R171). -/
  | sRbBank (off : BitVec 8)
  /-- S.WB.BANK (R170). -/
  | sWbBank (off : BitVec 8) (v : Byte)
  /-- S.RB.VDP (R198). -/
  | sRbVdp (off : BitVec 5)
  /-- S.WB.VDP (R199). -/
  | sWbVdp (off : BitVec 5) (v : Byte)
  /-- S.RB.WIN (R196). -/
  | sRbWin (off : BitVec 15)
  /-- S.WB.WIN (R197). -/
  | sWbWin (off : BitVec 15) (v : Byte)
  -- Events (30_encoding.md R60, kinds 2 to 11)
  /-- S.BEGIN (R162). -/
  | sBegin
  /-- S.END (R163). -/
  | sEnd
  /-- ARB.ACK (R165). -/
  | arbAck
  /-- T.ADV (R141). -/
  | tAdv (dt : Nat)
  /-- T.EXPIRE (R143). -/
  | tExpire (p : Nat) (g : Nat)
  /-- H.RESET (R251). -/
  | hReset
  /-- H.POWERON (R250). -/
  | hPoweron
  /-- I.PADSET (R115). -/
  | iPadset (p : Nat) (pad : Pad)
  /-- H.SAVE (R262). -/
  | hSave
  /-- H.RESTORE (R263). -/
  | hRestore (r : Block)
  deriving DecidableEq, Repr

/-- The operands that travel beside an operation word (R62); an operation reads only its own. -/
structure Operands where
  /-- Write data; a byte access uses bits 7..0. -/
  data : Half
  /-- Ticks of T.ADV. -/
  dt : Nat
  /-- Port of T.EXPIRE and I.PADSET. -/
  port : Nat
  /-- Generation of T.EXPIRE. -/
  gen : Nat
  /-- Snapshot of I.PADSET. -/
  pad : Pad
  /-- Record of H.RESTORE. -/
  record : Block
  deriving DecidableEq, Repr

/-- One operation as an agent issues it: the word and the operands beside it (R61, R62). -/
structure Request where
  word : OpWord
  operands : Operands
  deriving DecidableEq, Repr

end Sys2Proof
end

