-- ==== Sys2Proof/WellFormed.lean ====
section
/-! DEFINITION. Which instruction terms are well formed: a word access has an even offset (R46), an event's
port is 0 to 2 (R62), and a record's SharedRAM is in the model's one canonical form (log entry 7). -/

namespace Sys2Proof

/-- Indices rise strictly from `lo` on and stay below SRAM_SIZE. -/
def Memory.risingFrom : Nat → Memory → Bool
  | _, [] => true
  | lo, (a, _) :: m => decide (lo ≤ a) && decide (a < Config.sramSize) && Memory.risingFrom (a + 1) m

/-- The canonical form of SharedRAM: strictly rising indices below SRAM_SIZE (R25). An unlisted index has
no written value, so no entry can repeat what an unlisted index holds. -/
def Memory.wf (m : Memory) : Bool := Memory.risingFrom 0 m

/-- An even offset: bit 0 is 0 (R46). -/
def evenOffset {n : Nat} (off : BitVec n) : Bool := !off.getLsbD 0

/-- Well-formed instructions. -/
def Instr.wellFormed : Instr → Bool
  | .pRbData0 => true
  | .pWbData0 _ => true
  | .pRwData0 => true
  | .pWwData0 _ => true
  | .pRbData0Hi => true
  | .pWbData0Hi _ => true
  | .pRbCtrl0 => true
  | .pWbCtrl0 _ => true
  | .pRwCtrl0 => true
  | .pWwCtrl0 _ => true
  | .pRbCtrl0Hi => true
  | .pWbCtrl0Hi _ => true
  | .pRbSerial0 => true
  | .pWbSerial0 _ => true
  | .pRwSerial0 => true
  | .pWwSerial0 _ => true
  | .pRbSerial0Hi => true
  | .pWbSerial0Hi _ => true
  | .pRbData1 => true
  | .pWbData1 _ => true
  | .pRwData1 => true
  | .pWwData1 _ => true
  | .pRbData1Hi => true
  | .pWbData1Hi _ => true
  | .pRbCtrl1 => true
  | .pWbCtrl1 _ => true
  | .pRwCtrl1 => true
  | .pWwCtrl1 _ => true
  | .pRbCtrl1Hi => true
  | .pWbCtrl1Hi _ => true
  | .pRbSerial1 => true
  | .pWbSerial1 _ => true
  | .pRwSerial1 => true
  | .pWwSerial1 _ => true
  | .pRbSerial1Hi => true
  | .pWbSerial1Hi _ => true
  | .pRbData2 => true
  | .pWbData2 _ => true
  | .pRwData2 => true
  | .pWwData2 _ => true
  | .pRbData2Hi => true
  | .pWbData2Hi _ => true
  | .pRbCtrl2 => true
  | .pWbCtrl2 _ => true
  | .pRwCtrl2 => true
  | .pWwCtrl2 _ => true
  | .pRbCtrl2Hi => true
  | .pWbCtrl2Hi _ => true
  | .pRbSerial2 => true
  | .pWbSerial2 _ => true
  | .pRwSerial2 => true
  | .pWwSerial2 _ => true
  | .pRbSerial2Hi => true
  | .pWbSerial2Hi _ => true
  | .pRbBusreq => true
  | .pWbBusreq _ => true
  | .pRwBusreq => true
  | .pWwBusreq _ => true
  | .pRbBusreqLo => true
  | .pWbBusreqLo _ => true
  | .pRbReset => true
  | .pWbReset _ => true
  | .pRwReset => true
  | .pWwReset _ => true
  | .pRbResetLo => true
  | .pWbResetLo _ => true
  | .pRbSram _ => true
  | .pWbSram _ _ => true
  | .pRwSram off => evenOffset off
  | .pWwSram off _ => evenOffset off
  | .pRbSnd _ => true
  | .pWbSnd _ _ => true
  | .pRwSnd off => evenOffset off
  | .pWwSnd off _ => evenOffset off
  | .sRbSram _ => true
  | .sWbSram _ _ => true
  | .sRbSnd _ => true
  | .sWbSnd _ _ => true
  | .sRbBank _ => true
  | .sWbBank _ _ => true
  | .sRbVdp _ => true
  | .sWbVdp _ _ => true
  | .sRbWin _ => true
  | .sWbWin _ _ => true
  | .sBegin => true
  | .sEnd => true
  | .arbAck => true
  | .tAdv _ => true
  | .tExpire p _ => decide (p < 3)
  | .hReset => true
  | .hPoweron => true
  | .iPadset p _ => decide (p < 3)
  | .hSave => true
  | .hRestore r => Memory.wf r.sram

end Sys2Proof
end

