-- ==== Sys2Proof/Decode.lean ====
section
/-! DEFINITION. Decoding a request into an instruction, and encoding an instruction as a request.
The decoder is the opcode table: it tests `(word & mask) == match` for each row (R63). A word that selects no
row is refused under the reason R222 gives it. -/

namespace Sys2Proof

/-- Why a word spells no operation (60_exceptions.md R222, the reasons a decoder can name). -/
inductive DecodeRefusal where
  /-- An address outside the block's windows, or an I/O index "not in block" (R41, R42, R64). -/
  | notInBlock (address : PrimaryAddr)
  /-- A reserved KIND or a "must be 0" field that is not 0 (R61, R75). -/
  | malformed (word : OpWord)
  /-- A primary word access at an odd address (R46). -/
  | misaligned (address : PrimaryAddr)
  /-- A secondary word access (R46). -/
  | wrongWidth
  deriving DecidableEq, Repr

/-- A row of opcode_table.json: the bits it fixes and the instruction it makes. -/
structure Row where
  mnemonic : String
  pattern : OpWord
  mask : OpWord
  make : OpWord → Operands → Instr

/-- A word selects a row when its masked bits are the row's pattern (R63). -/
def Row.selects (row : Row) (w : OpWord) : Bool := w &&& row.mask == row.pattern

/-- The write data of a byte access, `v[7:0]` (R62). -/
def Operands.byteData (o : Operands) : Byte := o.data.setWidth 8

/-- Port 0 registers (40_controller_ports.md). -/
def port0Rows : List Row := [
  ⟨"P.RB.DATA0", 0x00A10003#32, 0xFFFFFFFF#32, fun _ _ => .pRbData0⟩,
  ⟨"P.WB.DATA0", 0x08A10003#32, 0xFFFFFFFF#32, fun _ o => .pWbData0 o.byteData⟩,
  ⟨"P.RW.DATA0", 0x04A10002#32, 0xFFFFFFFF#32, fun _ _ => .pRwData0⟩,
  ⟨"P.WW.DATA0", 0x0CA10002#32, 0xFFFFFFFF#32, fun _ o => .pWwData0 o.data⟩,
  ⟨"P.RB.DATA0.HI", 0x00A10002#32, 0xFFFFFFFF#32, fun _ _ => .pRbData0Hi⟩,
  ⟨"P.WB.DATA0.HI", 0x08A10002#32, 0xFFFFFFFF#32, fun _ o => .pWbData0Hi o.byteData⟩,
  ⟨"P.RB.CTRL0", 0x00A10009#32, 0xFFFFFFFF#32, fun _ _ => .pRbCtrl0⟩,
  ⟨"P.WB.CTRL0", 0x08A10009#32, 0xFFFFFFFF#32, fun _ o => .pWbCtrl0 o.byteData⟩,
  ⟨"P.RW.CTRL0", 0x04A10008#32, 0xFFFFFFFF#32, fun _ _ => .pRwCtrl0⟩,
  ⟨"P.WW.CTRL0", 0x0CA10008#32, 0xFFFFFFFF#32, fun _ o => .pWwCtrl0 o.data⟩,
  ⟨"P.RB.CTRL0.HI", 0x00A10008#32, 0xFFFFFFFF#32, fun _ _ => .pRbCtrl0Hi⟩,
  ⟨"P.WB.CTRL0.HI", 0x08A10008#32, 0xFFFFFFFF#32, fun _ o => .pWbCtrl0Hi o.byteData⟩,
  ⟨"P.RB.SERIAL0", 0x00A1000F#32, 0xFFFFFFFF#32, fun _ _ => .pRbSerial0⟩,
  ⟨"P.WB.SERIAL0", 0x08A1000F#32, 0xFFFFFFFF#32, fun _ o => .pWbSerial0 o.byteData⟩,
  ⟨"P.RW.SERIAL0", 0x04A1000E#32, 0xFFFFFFFF#32, fun _ _ => .pRwSerial0⟩,
  ⟨"P.WW.SERIAL0", 0x0CA1000E#32, 0xFFFFFFFF#32, fun _ o => .pWwSerial0 o.data⟩,
  ⟨"P.RB.SERIAL0.HI", 0x00A1000E#32, 0xFFFFFFFF#32, fun _ _ => .pRbSerial0Hi⟩,
  ⟨"P.WB.SERIAL0.HI", 0x08A1000E#32, 0xFFFFFFFF#32, fun _ o => .pWbSerial0Hi o.byteData⟩ ]

/-- Port 1 registers. -/
def port1Rows : List Row := [
  ⟨"P.RB.DATA1", 0x00A10005#32, 0xFFFFFFFF#32, fun _ _ => .pRbData1⟩,
  ⟨"P.WB.DATA1", 0x08A10005#32, 0xFFFFFFFF#32, fun _ o => .pWbData1 o.byteData⟩,
  ⟨"P.RW.DATA1", 0x04A10004#32, 0xFFFFFFFF#32, fun _ _ => .pRwData1⟩,
  ⟨"P.WW.DATA1", 0x0CA10004#32, 0xFFFFFFFF#32, fun _ o => .pWwData1 o.data⟩,
  ⟨"P.RB.DATA1.HI", 0x00A10004#32, 0xFFFFFFFF#32, fun _ _ => .pRbData1Hi⟩,
  ⟨"P.WB.DATA1.HI", 0x08A10004#32, 0xFFFFFFFF#32, fun _ o => .pWbData1Hi o.byteData⟩,
  ⟨"P.RB.CTRL1", 0x00A1000B#32, 0xFFFFFFFF#32, fun _ _ => .pRbCtrl1⟩,
  ⟨"P.WB.CTRL1", 0x08A1000B#32, 0xFFFFFFFF#32, fun _ o => .pWbCtrl1 o.byteData⟩,
  ⟨"P.RW.CTRL1", 0x04A1000A#32, 0xFFFFFFFF#32, fun _ _ => .pRwCtrl1⟩,
  ⟨"P.WW.CTRL1", 0x0CA1000A#32, 0xFFFFFFFF#32, fun _ o => .pWwCtrl1 o.data⟩,
  ⟨"P.RB.CTRL1.HI", 0x00A1000A#32, 0xFFFFFFFF#32, fun _ _ => .pRbCtrl1Hi⟩,
  ⟨"P.WB.CTRL1.HI", 0x08A1000A#32, 0xFFFFFFFF#32, fun _ o => .pWbCtrl1Hi o.byteData⟩,
  ⟨"P.RB.SERIAL1", 0x00A10015#32, 0xFFFFFFFF#32, fun _ _ => .pRbSerial1⟩,
  ⟨"P.WB.SERIAL1", 0x08A10015#32, 0xFFFFFFFF#32, fun _ o => .pWbSerial1 o.byteData⟩,
  ⟨"P.RW.SERIAL1", 0x04A10014#32, 0xFFFFFFFF#32, fun _ _ => .pRwSerial1⟩,
  ⟨"P.WW.SERIAL1", 0x0CA10014#32, 0xFFFFFFFF#32, fun _ o => .pWwSerial1 o.data⟩,
  ⟨"P.RB.SERIAL1.HI", 0x00A10014#32, 0xFFFFFFFF#32, fun _ _ => .pRbSerial1Hi⟩,
  ⟨"P.WB.SERIAL1.HI", 0x08A10014#32, 0xFFFFFFFF#32, fun _ o => .pWbSerial1Hi o.byteData⟩ ]

/-- Port 2 registers. -/
def port2Rows : List Row := [
  ⟨"P.RB.DATA2", 0x00A10007#32, 0xFFFFFFFF#32, fun _ _ => .pRbData2⟩,
  ⟨"P.WB.DATA2", 0x08A10007#32, 0xFFFFFFFF#32, fun _ o => .pWbData2 o.byteData⟩,
  ⟨"P.RW.DATA2", 0x04A10006#32, 0xFFFFFFFF#32, fun _ _ => .pRwData2⟩,
  ⟨"P.WW.DATA2", 0x0CA10006#32, 0xFFFFFFFF#32, fun _ o => .pWwData2 o.data⟩,
  ⟨"P.RB.DATA2.HI", 0x00A10006#32, 0xFFFFFFFF#32, fun _ _ => .pRbData2Hi⟩,
  ⟨"P.WB.DATA2.HI", 0x08A10006#32, 0xFFFFFFFF#32, fun _ o => .pWbData2Hi o.byteData⟩,
  ⟨"P.RB.CTRL2", 0x00A1000D#32, 0xFFFFFFFF#32, fun _ _ => .pRbCtrl2⟩,
  ⟨"P.WB.CTRL2", 0x08A1000D#32, 0xFFFFFFFF#32, fun _ o => .pWbCtrl2 o.byteData⟩,
  ⟨"P.RW.CTRL2", 0x04A1000C#32, 0xFFFFFFFF#32, fun _ _ => .pRwCtrl2⟩,
  ⟨"P.WW.CTRL2", 0x0CA1000C#32, 0xFFFFFFFF#32, fun _ o => .pWwCtrl2 o.data⟩,
  ⟨"P.RB.CTRL2.HI", 0x00A1000C#32, 0xFFFFFFFF#32, fun _ _ => .pRbCtrl2Hi⟩,
  ⟨"P.WB.CTRL2.HI", 0x08A1000C#32, 0xFFFFFFFF#32, fun _ o => .pWbCtrl2Hi o.byteData⟩,
  ⟨"P.RB.SERIAL2", 0x00A1001B#32, 0xFFFFFFFF#32, fun _ _ => .pRbSerial2⟩,
  ⟨"P.WB.SERIAL2", 0x08A1001B#32, 0xFFFFFFFF#32, fun _ o => .pWbSerial2 o.byteData⟩,
  ⟨"P.RW.SERIAL2", 0x04A1001A#32, 0xFFFFFFFF#32, fun _ _ => .pRwSerial2⟩,
  ⟨"P.WW.SERIAL2", 0x0CA1001A#32, 0xFFFFFFFF#32, fun _ o => .pWwSerial2 o.data⟩,
  ⟨"P.RB.SERIAL2.HI", 0x00A1001A#32, 0xFFFFFFFF#32, fun _ _ => .pRbSerial2Hi⟩,
  ⟨"P.WB.SERIAL2.HI", 0x08A1001A#32, 0xFFFFFFFF#32, fun _ o => .pWbSerial2Hi o.byteData⟩ ]

/-- Bus-request and reset registers, primary side (42_bus_arbiter.md). -/
def controlRows : List Row := [
  ⟨"P.RB.BUSREQ", 0x00A11100#32, 0xFFFFFFFF#32, fun _ _ => .pRbBusreq⟩,
  ⟨"P.WB.BUSREQ", 0x08A11100#32, 0xFFFFFFFF#32, fun _ o => .pWbBusreq o.byteData⟩,
  ⟨"P.RW.BUSREQ", 0x04A11100#32, 0xFFFFFFFF#32, fun _ _ => .pRwBusreq⟩,
  ⟨"P.WW.BUSREQ", 0x0CA11100#32, 0xFFFFFFFF#32, fun _ o => .pWwBusreq o.data⟩,
  ⟨"P.RB.BUSREQ.LO", 0x00A11101#32, 0xFFFFFFFF#32, fun _ _ => .pRbBusreqLo⟩,
  ⟨"P.WB.BUSREQ.LO", 0x08A11101#32, 0xFFFFFFFF#32, fun _ o => .pWbBusreqLo o.byteData⟩,
  ⟨"P.RB.RESET", 0x00A11200#32, 0xFFFFFFFF#32, fun _ _ => .pRbReset⟩,
  ⟨"P.WB.RESET", 0x08A11200#32, 0xFFFFFFFF#32, fun _ o => .pWbReset o.byteData⟩,
  ⟨"P.RW.RESET", 0x04A11200#32, 0xFFFFFFFF#32, fun _ _ => .pRwReset⟩,
  ⟨"P.WW.RESET", 0x0CA11200#32, 0xFFFFFFFF#32, fun _ o => .pWwReset o.data⟩,
  ⟨"P.RB.RESET.LO", 0x00A11201#32, 0xFFFFFFFF#32, fun _ _ => .pRbResetLo⟩,
  ⟨"P.WB.RESET.LO", 0x08A11201#32, 0xFFFFFFFF#32, fun _ o => .pWbResetLo o.byteData⟩ ]

/-- SharedRAM and sound windows, primary side (43_cross_bus_bridge.md). -/
def bridgeRows : List Row := [
  ⟨"P.RB.SRAM", 0x00A00000#32, 0xFFFFC000#32, fun w _ => .pRbSram (w.extractLsb' 0 14)⟩,
  ⟨"P.WB.SRAM", 0x08A00000#32, 0xFFFFC000#32, fun w o => .pWbSram (w.extractLsb' 0 14) o.byteData⟩,
  ⟨"P.RW.SRAM", 0x04A00000#32, 0xFFFFC001#32, fun w _ => .pRwSram (w.extractLsb' 0 14)⟩,
  ⟨"P.WW.SRAM", 0x0CA00000#32, 0xFFFFC001#32, fun w o => .pWwSram (w.extractLsb' 0 14) o.data⟩,
  ⟨"P.RB.SND", 0x00A04000#32, 0xFFFFE000#32, fun w _ => .pRbSnd (w.extractLsb' 0 13)⟩,
  ⟨"P.WB.SND", 0x08A04000#32, 0xFFFFE000#32, fun w o => .pWbSnd (w.extractLsb' 0 13) o.byteData⟩,
  ⟨"P.RW.SND", 0x04A04000#32, 0xFFFFE001#32, fun w _ => .pRwSnd (w.extractLsb' 0 13)⟩,
  ⟨"P.WW.SND", 0x0CA04000#32, 0xFFFFE001#32, fun w o => .pWwSnd (w.extractLsb' 0 13) o.data⟩ ]

/-- Secondary bus accesses (42_bus_arbiter.md, 43_cross_bus_bridge.md). -/
def secondaryRows : List Row := [
  ⟨"S.RB.SRAM", 0x10000000#32, 0xFFFFC000#32, fun w _ => .sRbSram (w.extractLsb' 0 14)⟩,
  ⟨"S.WB.SRAM", 0x18000000#32, 0xFFFFC000#32, fun w o => .sWbSram (w.extractLsb' 0 14) o.byteData⟩,
  ⟨"S.RB.SND", 0x10004000#32, 0xFFFFE000#32, fun w _ => .sRbSnd (w.extractLsb' 0 13)⟩,
  ⟨"S.WB.SND", 0x18004000#32, 0xFFFFE000#32, fun w o => .sWbSnd (w.extractLsb' 0 13) o.byteData⟩,
  ⟨"S.RB.BANK", 0x10006000#32, 0xFFFFFF00#32, fun w _ => .sRbBank (w.extractLsb' 0 8)⟩,
  ⟨"S.WB.BANK", 0x18006000#32, 0xFFFFFF00#32, fun w o => .sWbBank (w.extractLsb' 0 8) o.byteData⟩,
  ⟨"S.RB.VDP", 0x10007F00#32, 0xFFFFFFE0#32, fun w _ => .sRbVdp (w.extractLsb' 0 5)⟩,
  ⟨"S.WB.VDP", 0x18007F00#32, 0xFFFFFFE0#32, fun w o => .sWbVdp (w.extractLsb' 0 5) o.byteData⟩,
  ⟨"S.RB.WIN", 0x10008000#32, 0xFFFF8000#32, fun w _ => .sRbWin (w.extractLsb' 0 15)⟩,
  ⟨"S.WB.WIN", 0x18008000#32, 0xFFFF8000#32, fun w o => .sWbWin (w.extractLsb' 0 15) o.byteData⟩ ]

/-- Events (30_encoding.md R60, kinds 2 to 11). -/
def eventRows : List Row := [
  ⟨"S.BEGIN", 0x20000000#32, 0xFFFFFFFF#32, fun _ _ => .sBegin⟩,
  ⟨"S.END", 0x30000000#32, 0xFFFFFFFF#32, fun _ _ => .sEnd⟩,
  ⟨"ARB.ACK", 0x40000000#32, 0xFFFFFFFF#32, fun _ _ => .arbAck⟩,
  ⟨"T.ADV", 0x50000000#32, 0xFFFFFFFF#32, fun _ o => .tAdv o.dt⟩,
  ⟨"T.EXPIRE", 0x60000000#32, 0xFFFFFFFF#32, fun _ o => .tExpire o.port o.gen⟩,
  ⟨"H.RESET", 0x70000000#32, 0xFFFFFFFF#32, fun _ _ => .hReset⟩,
  ⟨"H.POWERON", 0x80000000#32, 0xFFFFFFFF#32, fun _ _ => .hPoweron⟩,
  ⟨"I.PADSET", 0x90000000#32, 0xFFFFFFFF#32, fun _ o => .iPadset o.port o.pad⟩,
  ⟨"H.SAVE", 0xA0000000#32, 0xFFFFFFFF#32, fun _ _ => .hSave⟩,
  ⟨"H.RESTORE", 0xB0000000#32, 0xFFFFFFFF#32, fun _ o => .hRestore o.record⟩ ]

/-- opcode_table.json, row by row in its order. -/
def rows : List Row :=
  port0Rows ++ port1Rows ++ port2Rows ++ controlRows ++ bridgeRows ++ secondaryRows ++ eventRows

/-- KIND, bits 31..28 (R61). -/
def kindField (w : OpWord) : BitVec 4 := w.extractLsb' 28 4

/-- SZ, bit 26: 1 for a word access (R61). -/
def sizeField (w : OpWord) : Bool := w.getLsbD 26

/-- ADDR, bits 23..0 (R61). -/
def addrField (w : OpWord) : PrimaryAddr := w.extractLsb' 0 24

/-- A "must be 0" field of R61 is not 0, or KIND is reserved (R75): bits 25..24 of every word, bits 23..16 of
a secondary access, bits 27..0 of an event. -/
def malformedWord (w : OpWord) : Bool :=
  w.extractLsb' 24 2 != 0#2 ||
  (kindField w == 1#4 && w.extractLsb' 16 8 != 0#8) ||
  (2#4 ≤ kindField w && kindField w < 12#4 && w.extractLsb' 0 28 != 0#28) ||
  12#4 ≤ kindField w

/-- The reason a word that selects no row is refused (R222). Where two apply, malformed comes first, then the
width and alignment reasons, then the address (log entry 16). -/
def refusalReason (w : OpWord) : DecodeRefusal :=
  if malformedWord w then .malformed w
  else if kindField w == 0#4 then
    if sizeField w && (addrField w).getLsbD 0 then .misaligned (addrField w) else .notInBlock (addrField w)
  else if sizeField w then .wrongWidth
  else .notInBlock (addrField w)

/-- The decoder (R63): total on every word and operands. -/
def decode (q : Request) : Except DecodeRefusal Instr :=
  match rows.find? (fun row => row.selects q.word) with
  | some row => .ok (row.make q.word q.operands)
  | none => .error (refusalReason q.word)

/-- A port whose registers are all 0; its line is then at TH_IDLE (R13). -/
def zeroPort : Port :=
  { data := 0, ctrl := 0, serial := 0, sel := Config.thIdle, stage := 0, lastToggle := 0
    armed := false, deadline := 0, tmrGen := 0, gen := 0 }

/-- The persisted record whose every number is 0 and every flag false (R38); SEL follows from R13. -/
def zeroBlock : Block :=
  { port0 := zeroPort, port1 := zeroPort, port2 := zeroPort, now := 0
    isReset := false, busReq := false, busAck := false, secBusy := false
    bankSr := 0, bankCount := 0, bankBase := 0, sram := [], sramSeed := 0 }

/-- No operand given: every operand zero. The record has no word format (R262), so its zero is `zeroBlock`
(log entry 18). -/
def Operands.zero : Operands :=
  { data := 0, dt := 0, port := 0, gen := 0, pad := Pad.released, record := zeroBlock }

/-- A request of a word with no operand. -/
def bare (w : OpWord) : Request := ⟨w, Operands.zero⟩

/-- A request of a word with write data beside it. -/
def withData (w : OpWord) (v : Half) : Request := ⟨w, { Operands.zero with data := v }⟩

/-- The request that spells an instruction: `KIND, W, SZ, 00, ADDR` of R61 with the operands beside it. -/
def encode : Instr → Request
  | .pRbData0 => bare 0x00A10003#32
  | .pWbData0 v => withData 0x08A10003#32 (v.setWidth 16)
  | .pRwData0 => bare 0x04A10002#32
  | .pWwData0 v => withData 0x0CA10002#32 v
  | .pRbData0Hi => bare 0x00A10002#32
  | .pWbData0Hi v => withData 0x08A10002#32 (v.setWidth 16)
  | .pRbCtrl0 => bare 0x00A10009#32
  | .pWbCtrl0 v => withData 0x08A10009#32 (v.setWidth 16)
  | .pRwCtrl0 => bare 0x04A10008#32
  | .pWwCtrl0 v => withData 0x0CA10008#32 v
  | .pRbCtrl0Hi => bare 0x00A10008#32
  | .pWbCtrl0Hi v => withData 0x08A10008#32 (v.setWidth 16)
  | .pRbSerial0 => bare 0x00A1000F#32
  | .pWbSerial0 v => withData 0x08A1000F#32 (v.setWidth 16)
  | .pRwSerial0 => bare 0x04A1000E#32
  | .pWwSerial0 v => withData 0x0CA1000E#32 v
  | .pRbSerial0Hi => bare 0x00A1000E#32
  | .pWbSerial0Hi v => withData 0x08A1000E#32 (v.setWidth 16)
  | .pRbData1 => bare 0x00A10005#32
  | .pWbData1 v => withData 0x08A10005#32 (v.setWidth 16)
  | .pRwData1 => bare 0x04A10004#32
  | .pWwData1 v => withData 0x0CA10004#32 v
  | .pRbData1Hi => bare 0x00A10004#32
  | .pWbData1Hi v => withData 0x08A10004#32 (v.setWidth 16)
  | .pRbCtrl1 => bare 0x00A1000B#32
  | .pWbCtrl1 v => withData 0x08A1000B#32 (v.setWidth 16)
  | .pRwCtrl1 => bare 0x04A1000A#32
  | .pWwCtrl1 v => withData 0x0CA1000A#32 v
  | .pRbCtrl1Hi => bare 0x00A1000A#32
  | .pWbCtrl1Hi v => withData 0x08A1000A#32 (v.setWidth 16)
  | .pRbSerial1 => bare 0x00A10015#32
  | .pWbSerial1 v => withData 0x08A10015#32 (v.setWidth 16)
  | .pRwSerial1 => bare 0x04A10014#32
  | .pWwSerial1 v => withData 0x0CA10014#32 v
  | .pRbSerial1Hi => bare 0x00A10014#32
  | .pWbSerial1Hi v => withData 0x08A10014#32 (v.setWidth 16)
  | .pRbData2 => bare 0x00A10007#32
  | .pWbData2 v => withData 0x08A10007#32 (v.setWidth 16)
  | .pRwData2 => bare 0x04A10006#32
  | .pWwData2 v => withData 0x0CA10006#32 v
  | .pRbData2Hi => bare 0x00A10006#32
  | .pWbData2Hi v => withData 0x08A10006#32 (v.setWidth 16)
  | .pRbCtrl2 => bare 0x00A1000D#32
  | .pWbCtrl2 v => withData 0x08A1000D#32 (v.setWidth 16)
  | .pRwCtrl2 => bare 0x04A1000C#32
  | .pWwCtrl2 v => withData 0x0CA1000C#32 v
  | .pRbCtrl2Hi => bare 0x00A1000C#32
  | .pWbCtrl2Hi v => withData 0x08A1000C#32 (v.setWidth 16)
  | .pRbSerial2 => bare 0x00A1001B#32
  | .pWbSerial2 v => withData 0x08A1001B#32 (v.setWidth 16)
  | .pRwSerial2 => bare 0x04A1001A#32
  | .pWwSerial2 v => withData 0x0CA1001A#32 v
  | .pRbSerial2Hi => bare 0x00A1001A#32
  | .pWbSerial2Hi v => withData 0x08A1001A#32 (v.setWidth 16)
  | .pRbBusreq => bare 0x00A11100#32
  | .pWbBusreq v => withData 0x08A11100#32 (v.setWidth 16)
  | .pRwBusreq => bare 0x04A11100#32
  | .pWwBusreq v => withData 0x0CA11100#32 v
  | .pRbBusreqLo => bare 0x00A11101#32
  | .pWbBusreqLo v => withData 0x08A11101#32 (v.setWidth 16)
  | .pRbReset => bare 0x00A11200#32
  | .pWbReset v => withData 0x08A11200#32 (v.setWidth 16)
  | .pRwReset => bare 0x04A11200#32
  | .pWwReset v => withData 0x0CA11200#32 v
  | .pRbResetLo => bare 0x00A11201#32
  | .pWbResetLo v => withData 0x08A11201#32 (v.setWidth 16)
  | .pRbSram off => bare (0x280#18 ++ off)
  | .pWbSram off v => withData (0x2280#18 ++ off) (v.setWidth 16)
  | .pRwSram off => bare (0x1280#18 ++ off)
  | .pWwSram off v => withData (0x3280#18 ++ off) v
  | .pRbSnd off => bare (0x502#19 ++ off)
  | .pWbSnd off v => withData (0x4502#19 ++ off) (v.setWidth 16)
  | .pRwSnd off => bare (0x2502#19 ++ off)
  | .pWwSnd off v => withData (0x6502#19 ++ off) v
  | .sRbSram off => bare (0x4000#18 ++ off)
  | .sWbSram off v => withData (0x6000#18 ++ off) (v.setWidth 16)
  | .sRbSnd off => bare (0x8002#19 ++ off)
  | .sWbSnd off v => withData (0xC002#19 ++ off) (v.setWidth 16)
  | .sRbBank off => bare (0x100060#24 ++ off)
  | .sWbBank off v => withData (0x180060#24 ++ off) (v.setWidth 16)
  | .sRbVdp off => bare (0x8003F8#27 ++ off)
  | .sWbVdp off v => withData (0xC003F8#27 ++ off) (v.setWidth 16)
  | .sRbWin off => bare (0x2001#17 ++ off)
  | .sWbWin off v => withData (0x3001#17 ++ off) (v.setWidth 16)
  | .sBegin => bare 0x20000000#32
  | .sEnd => bare 0x30000000#32
  | .arbAck => bare 0x40000000#32
  | .tAdv dt => ⟨0x50000000#32, { Operands.zero with dt := dt }⟩
  | .tExpire p g => ⟨0x60000000#32, { Operands.zero with port := p, gen := g }⟩
  | .hReset => bare 0x70000000#32
  | .hPoweron => bare 0x80000000#32
  | .iPadset p pad => ⟨0x90000000#32, { Operands.zero with port := p, pad := pad }⟩
  | .hSave => bare 0xA0000000#32
  | .hRestore r => ⟨0xB0000000#32, { Operands.zero with record := r }⟩

/-- What the decoder reads from an opcode-table row's `nbits` bits `w`, with no operand beside the word. -/
def decodeTableWord (nbits w : Nat) : Option Instr :=
  match decode (bare (BitVec.ofNat 32 (w % 2 ^ nbits))) with
  | .ok i => some i
  | .error _ => none

end Sys2Proof
end

