-- ==== Sys2Proof/Machine/State.lean ====
section
/-! DEFINITION. The state of the machine as plain data: the block's persisted state, its inputs, and the
model's own record of what the block returned and sent out, of the draws taken and of the scheduled
operations. The reasons a step can stop. The state after power-on. -/

namespace Sys2Proof.Machine

/-- What an operation returned to its initiator (`result <- v`, R5, R62). -/
inductive Result where
  /-- The operation returned nothing. -/
  | none
  /-- The result of a byte read. -/
  | byte (v : Byte)
  /-- The result of a word read. -/
  | word (v : Half)
  /-- The record H.SAVE returned (R262). -/
  | saved (r : Block)
  deriving DecidableEq, Repr

/-- One access of the block to an external collaborator, with the value it carried (R5). -/
inductive ExtAccess where
  | soundRead (reg : BitVec 2) (v : Byte)
  | soundWrite (reg : BitVec 2) (v : Byte)
  | vdpRead (port : BitVec 5) (w : Half)
  | vdpWrite (port : BitVec 5) (w : Half)
  | primaryRead (a : PrimaryAddr) (v : Byte)
  | primaryWrite (a : PrimaryAddr) (v : Byte)
  deriving DecidableEq, Repr

/-- The state. `blk` and the pads are the spec's (10_state.md); the other fields are the model's own. -/
structure State where
  /-- The persisted state of the block: every field of R38. -/
  blk : Block
  /-- PAD_IN[0] (R26). -/
  pad0 : Pad
  /-- PAD_IN[1] (R26). -/
  pad1 : Pad
  /-- PAD_IN[2] (R26). -/
  pad2 : Pad
  /-- The value the last step's operation returned (R5). Log entry 10. -/
  result : Result
  /-- Every access made to an external collaborator, oldest first. Log entry 9. -/
  external : List ExtAccess
  /-- How many draws the run has taken; the next draw's argument (R6). Log entry 6. -/
  draws : Nat
  /-- The operations the external scheduler has chosen, next first (R1). Log entry 2. -/
  schedule : List Request
  deriving DecidableEq, Repr

/-- The block raises no exception, trap or error signal (R220), so no step ends in a fault: no reason
exists. -/
inductive Fault where
  deriving DecidableEq, Repr

/-- Why an operation is refused (60_exceptions.md R222). Every reason is safe: a refused operation has no next
state, so no claim holds of a run that contains one. -/
inductive Refusal where
  /-- Raised by exec for an instruction that has no meaning yet. Safe. -/
  | notModelled (mnemonic : String)
  /-- Raised by decoding: an address outside the block's windows, or an I/O index "not in block" (R41, R42,
  R64). A secondary address is zero-extended to 24 bits. Safe. -/
  | notInBlock (address : PrimaryAddr)
  /-- Raised by decoding: a reserved KIND or a "must be 0" field not 0 (R61, R75). Safe. -/
  | malformed (word : OpWord)
  /-- Raised by decoding: a primary word access at an odd address (R46). Safe. -/
  | misaligned (address : PrimaryAddr)
  /-- Raised by decoding: a secondary word access (R46). Safe. -/
  | wrongWidth
  /-- Raised by T.EXPIRE and I.PADSET: a port outside 0 to 2 (R62). Safe. -/
  | badPort (p : Nat)
  /-- Raised by S.END with no instruction in flight (R163). Safe. -/
  | endWithoutBegin
  /-- Raised by every secondary access made with SEC_BUSY false (R202). Safe. -/
  | accessOutsideInstruction
  /-- Raised by a bank-window access that reaches the block's own primary windows (R56). Safe. -/
  | windowIntoSelf (ea : PrimaryAddr)
  /-- Raised by H.RESTORE of a record that breaks an invariant (R263). Safe. -/
  | inconsistentRestore
  deriving DecidableEq, Repr

/-- A port at power-on (R29, R250). -/
def Port.reset : Port :=
  { data := 0x00, ctrl := 0x00, serial := 0x00, sel := true, stage := 0, lastToggle := 0
    armed := false, deadline := 0, tmrGen := 0, gen := 0 }

/-- The block at power-on (R29, R250); its SharedRAM holds the power-on draw 0. -/
def Block.reset : Block :=
  { port0 := Port.reset, port1 := Port.reset, port2 := Port.reset, now := 0
    isReset := true, busReq := false, busAck := false, secBusy := false
    bankSr := 0, bankCount := 0, bankBase := 0x000000, sram := [], sramSeed := 0 }

/-- The machine right after power-on (R250, R265: power-on is the first operation of every run). The pads
(log entry 13) and the model's own fields (log entry 14) hold values the spec does not give. -/
def State.reset : State :=
  { blk := Block.reset, pad0 := Pad.released, pad1 := Pad.released, pad2 := Pad.released
    result := .none, external := [], draws := 1, schedule := [] }

end Sys2Proof.Machine
end

