-- ==== Sys2Proof/Machine/Flags.lean ====
section
/-! DEFINITION. The block has no flags or condition codes (R12). The status it reports is the bus-grant bit
(R72, R166); the outputs it drives are functions of its state (R28). -/

namespace Sys2Proof.Machine

/-- The bus-grant status bit: 0 = granted, 1 = not granted (R72, R166). -/
def grantBit (busAck : Bool) : BitVec 1 := if busAck then 0#1 else 1#1

/-- SEC_MAY_BEGIN (R28): the guard of S.BEGIN (R162). -/
def secMayBegin (b : Block) : Bool := !b.isReset && !b.busReq && !b.secBusy

/-- The guard of ARB.ACK (R165). -/
def ackDue (b : Block) : Bool := b.busReq && !b.busAck && !b.secBusy

/-- The outputs of R28. -/
structure Outputs where
  /-- SEC_RESET_ASSERTED: while true the secondary core's registers are undefined (R30, R169). -/
  secResetAsserted : Bool
  /-- SEC_MAY_BEGIN. -/
  secMayBegin : Bool
  /-- TH_OUT[0]. -/
  thOut0 : Bool
  /-- TH_OUT[1]. -/
  thOut1 : Bool
  /-- TH_OUT[2]. -/
  thOut2 : Bool
  /-- PRI_IRQ. -/
  priIrq : Bool
  /-- SEC_IRQ. -/
  secIrq : Bool
  deriving DecidableEq, Repr

/-- What the block drives in state `s` while the video-display processor drives its two interrupt request
lines at `vdpPri` and `vdpSec`: those pass through unchanged (R28, R226). Log entry 20. -/
def outputs (s : State) (vdpPri vdpSec : Bool) : Outputs :=
  { secResetAsserted := s.blk.isReset
    secMayBegin := secMayBegin s.blk
    thOut0 := s.blk.port0.sel
    thOut1 := s.blk.port1.sel
    thOut2 := s.blk.port2.sel
    priIrq := vdpPri
    secIrq := vdpSec }

end Sys2Proof.Machine
end

