-- ==== Sys2Proof/Machine/Operands.lean ====
section
/-! DEFINITION. The operand forms: byte lanes of a word access, the control bits a write carries, the SharedRAM
index, the sound register, the VDP port and the bank-window address (R43, R45, R47, R62, R72 to R74). -/

namespace Sys2Proof.Machine

/-- Bits 15..8 of a word: the byte at the even address (R45). -/
def highLane (w : Half) : Byte := w.extractLsb' 8 8

/-- Bits 7..0 of a word: the byte at the odd address (R45). -/
def lowLane (w : Half) : Byte := w.extractLsb' 0 8

/-- `{ hi, lo }`: a word from its two lanes (R45). -/
def lanes (hi lo : Byte) : Half := hi ++ lo

/-- The control bit a byte write carries: `v[0]` (R72, R73, R74). -/
def controlBitOfByte (v : Byte) : Bool := v.getLsbD 0

/-- The control bit a word write carries: `v[8]` (R72, R73). -/
def controlBitOfWord (v : Half) : Bool := v.getLsbD 8

/-- `idx(a)` = a mod SRAM_SIZE; the window's base is a multiple of SRAM_SIZE, so the offset gives it (R190). -/
def sramIndex (off : BitVec 14) : Nat := off.toNat % Config.sramSize

/-- The sound device register `a & 0x3` (R41, R42). -/
def soundRegister (off : BitVec 13) : BitVec 2 := off.extractLsb' 0 2

/-- The VDP port offset `o & 0x1E` (R198, R199). -/
def vdpPort (off : BitVec 5) : BitVec 5 := off &&& 0x1E#5

/-- The big-endian lane a byte read at offset `o` takes of the 16-bit port (R198). -/
def vdpLane (off : BitVec 5) (w : Half) : Byte := if off.getLsbD 0 then lowLane w else highLane w

/-- `WindowEA(a)` = BANK_BASE + (a mod 0x8000), 24 bits (R43); `off` is `a mod 0x8000`. -/
def windowEA (base : BitVec 24) (off : BitVec 15) : PrimaryAddr := base + off.setWidth 24

/-- The address lies in one of the block's own primary windows (R41, R56). -/
def inOwnWindow (ea : PrimaryAddr) : Bool :=
  (0xA00000 ≤ ea.toNat && ea.toNat ≤ 0xA05FFF) || (0xA10000 ≤ ea.toNat && ea.toNat ≤ 0xA1001F) ||
  (0xA11100 ≤ ea.toNat && ea.toNat ≤ 0xA11101) || (0xA11200 ≤ ea.toNat && ea.toNat ≤ 0xA11201)

end Sys2Proof.Machine
end

