-- ==== Sys2Proof/Machine/Ops.lean ====
section
/-! DEFINITION. The shared operations: SharedRAM, the ports and their protocol (40_controller_ports.md), the port
timer (41_port_timeout.md), the arbiter and the bank register (42_bus_arbiter.md), replies with draws, accesses to
the external collaborators, and the consistency of a persisted record (70_reset_and_hazards.md). The block takes
no exception (R220, R225), so there is no exception entry or return. -/

namespace Sys2Proof.Machine

/-- The outcome of one operation of this machine. -/
abbrev Out := Host.Outcome State Fault Refusal

/-! ### Updates of the state -/

/-- The state with another persisted block. -/
def setBlk (b : Block) (s : State) : State := { s with blk := b }

/-- `result <- r` (R5). -/
def setResult (r : Result) (s : State) : State := { s with result := r }

/-- One draw has been taken (R6). -/
def tickDraws (s : State) : State := { s with draws := s.draws + 1 }

/-- The block has made an access to an external collaborator. -/
def logAccess (e : ExtAccess) (s : State) : State := { s with external := s.external ++ [e] }

/-! ### Ports -/

/-- Port p's state. -/
def getPort (b : Block) (p : PortId) : Port :=
  match p with
  | 0 => b.port0
  | 1 => b.port1
  | 2 => b.port2

/-- The block with another state of port p. -/
def setPort (b : Block) (p : PortId) (q : Port) : Block :=
  match p with
  | 0 => { b with port0 := q }
  | 1 => { b with port1 := q }
  | 2 => { b with port2 := q }

/-- The block with the same function applied to each port. -/
def mapPorts (f : Port → Port) (b : Block) : Block :=
  { b with port0 := f b.port0, port1 := f b.port1, port2 := f b.port2 }

/-- PAD_IN[p] (R26). -/
def getPad (s : State) (p : PortId) : Pad :=
  match p with
  | 0 => s.pad0
  | 1 => s.pad1
  | 2 => s.pad2

/-- `PAD_IN[p] <- snapshot` (R115). -/
def setPad (p : PortId) (d : Pad) (s : State) : State :=
  match p with
  | 0 => { s with pad0 := d }
  | 1 => { s with pad1 := d }
  | 2 => { s with pad2 := d }

/-- An event's port operand: a value outside 0..2 names no port (R62). -/
def portOperand : Nat → Option PortId
  | 0 => some 0
  | 1 => some 1
  | 2 => some 2
  | _ => none

/-! ### Pad rows and the data read -/

/-- `n(x)`: 0 when pressed, 1 when released (R69, R100). -/
def n (pressed : Bool) : BitVec 1 := BitVec.ofBool (!pressed)

/-- `NormalRow(pad, s)` (R100, R69). -/
def normalRow (pad : Pad) (sel : Bool) : BitVec 6 :=
  if sel then n pad.start ++ n pad.a ++ n pad.right ++ n pad.left ++ n pad.down ++ n pad.up
  else n pad.c ++ n pad.b ++ n pad.right ++ n pad.left ++ n pad.down ++ n pad.up

/-- `Row(p)` of a port with this kind, snapshot, select level and stage (R100, R112). -/
def padRow (kind : PadKind) (pad : Pad) (sel : Bool) (stage : Nat) : BitVec 6 :=
  let top := (normalRow pad sel).extractLsb' 4 2
  if stage = 3 then
    match kind with
    | .pad3 => normalRow pad sel
    | .pad6 => top ++ 0b0000#4
  else if stage = 4 then
    match kind with
    | .pad3 => normalRow pad sel
    | .pad6 => top ++ n pad.mode ++ n pad.x ++ n pad.y ++ n pad.z
  else normalRow pad sel

/-- `PortRead(p)` (R101): each bit is the latch where CTRL is 1 and the pin where it is 0 (R65). -/
def portRead (kind : PadKind) (pad : Pad) (q : Port) : Byte :=
  let pins : Byte := 1#1 ++ BitVec.ofBool q.sel ++ padRow kind pad q.sel q.stage
  (q.data &&& q.ctrl) ||| (pins &&& ~~~q.ctrl)

/-- The byte the data register of port p returns in state `s`. -/
def dataValue (s : State) (p : PortId) : Byte := portRead (Config.padKind p) (getPad s p) (getPort s.blk p)

/-! ### The select-line handshake -/

/-- The level of the select line (R13). -/
def lineLevel (ctrl data : Byte) : Bool :=
  if ctrl.getLsbD Config.selBit then data.getLsbD Config.selBit else Config.thIdle

/-- `NextStage(s)` (R111). -/
def nextStage (stage : Nat) : Nat := if stage = Config.stageMax then 1 else stage + 1

/-- `SelectTransition(p)` (R110): the stage advances and the timer is armed with a new generation. -/
def selectTransition (timeout now : Nat) (q : Port) : Port :=
  { q with
    stage := nextStage q.stage
    lastToggle := now
    gen := q.gen + 1
    tmrGen := q.gen + 1
    deadline := now + timeout
    armed := true }

/-- `PortWriteEpilogue(p, sel_old)` (R102): the line takes its new level; a change of level is a transition. -/
def portWriteEpilogue (timeout now : Nat) (selOld : Bool) (q : Port) : Port :=
  let selNew := lineLevel q.ctrl q.data
  let q' := { q with sel := selNew }
  if selNew = selOld then q' else selectTransition timeout now q'

/-- A write of the data register (R104, R66): all 8 bits are stored. -/
def writeData (timeout now : Nat) (v : Byte) (q : Port) : Port :=
  portWriteEpilogue timeout now q.sel { q with data := v }

/-- A write of the control register (R106). -/
def writeCtrl (timeout now : Nat) (v : Byte) (q : Port) : Port :=
  portWriteEpilogue timeout now q.sel { q with ctrl := v }

/-- A write of the serial register (R108): plain storage. -/
def writeSerial (v : Byte) (q : Port) : Port := { q with serial := v }

/-! ### The port timer -/

/-- `ExpireEffect(p)` (R144). -/
def expireEffect (q : Port) : Port := { q with stage := 0, armed := false }

/-- The timer is armed and its deadline has come (R141). -/
def timerDue (now : Nat) (q : Port) : Bool := q.armed && decide (q.deadline ≤ now)

/-- Fire the timer if it is due (R141). -/
def expireIfDue (now : Nat) (q : Port) : Port := if timerDue now q then expireEffect q else q

/-- A callback of generation g takes effect only on a due timer of that generation (R143). -/
def callbackValid (now g : Nat) (q : Port) : Bool :=
  q.armed && decide (g = q.gen) && decide (g = q.tmrGen) && decide (q.deadline ≤ now)

/-- `CancelTimer(p)` (R145). -/
def cancelTimer (q : Port) : Port := { q with armed := false, gen := q.gen + 1 }

/-- A port at a hardware reset (R251). -/
def hardwareResetPort (q : Port) : Port :=
  cancelTimer
    { q with
      data := 0, ctrl := 0, serial := 0, sel := Config.thIdle, stage := 0
      lastToggle := 0, deadline := 0, tmrGen := 0 }

/-! ### SharedRAM -/

/-- The written byte at an index, if any: an unlisted index has none. -/
def Memory.lookup (i : Nat) : Memory → Option Byte
  | [] => none
  | (j, v) :: m => if i = j then some v else Memory.lookup i m

/-- Write a byte, keeping the indices in rising order. -/
def Memory.insert (i : Nat) (v : Byte) : Memory → Memory
  | [] => [(i, v)]
  | (j, w) :: m =>
    if i < j then (i, v) :: (j, w) :: m
    else if i = j then (i, v) :: m
    else (j, w) :: Memory.insert i v m

/-- `SRAM[i]`: the byte last written, or the power-on draw of that byte (R25, R29, R51). -/
def sramRead (b : Block) (i : Nat) : Byte :=
  match Memory.lookup i b.sram with
  | some v => v
  | none => Config.sramPowerOn b.sramSeed i

/-- `SRAM[i] <- v` (R25). -/
def sramWrite (i : Nat) (v : Byte) (b : Block) : Block := { b with sram := Memory.insert i v b.sram }

/-! ### Arbiter and bank register -/

/-- `request_bus(grant)` (R164): a release also takes the grant away at once. -/
def requestBus (grant : Bool) (b : Block) : Block :=
  { b with busReq := grant, busAck := grant && b.busAck }

/-- `request_reset(assert)` from the written bit: 0 asserts, 1 releases (R168). -/
def requestReset (bit : Bool) (b : Block) : Block := { b with isReset := !bit }

/-- BANK_BASE from BANK_SR (R24). -/
def bankBaseOf (sr : BitVec 9) : BitVec 24 := sr.setWidth 24 <<< 15

/-- `bank_shift_write(bit)` (R170): the bit enters at bit 8, the rest shift right. -/
def bankShift (bit : Bool) (b : Block) : Block :=
  let sr : BitVec 9 := BitVec.ofBool bit ++ b.bankSr.extractLsb' 1 8
  { b with bankSr := sr, bankCount := min (b.bankCount + 1) Config.bankCountMax, bankBase := bankBaseOf sr }

/-! ### Outcomes shared by the meanings -/

/-- The operation changes only the block. -/
def updateBlock (f : Block → Block) (s : State) : Out := .next (setBlk (f s.blk) s)

/-- The operation changes only port p of the block. -/
def updatePort (p : PortId) (f : Port → Port) (s : State) : Out :=
  updateBlock (fun b => setPort b p (f (getPort b p))) s

/-- A byte read that returns `v` and has no side effect (R49). -/
def replyByte (v : Byte) (s : State) : Out := .next (setResult (.byte v) s)

/-- A word read that returns `w` and has no side effect (R49). -/
def replyWord (w : Half) (s : State) : Out := .next (setResult (.word w) s)

/-- A word read `{ draw8(), v }` of a byte register (R103, R105, R107). -/
def replyLowLane (v : Byte) (s : State) : Out := replyWord (lanes (Config.draw8 s.draws) v) (tickDraws s)

/-- A byte read of any value (R109, R167, R171, R172). -/
def replyAnyByte (s : State) : Out := replyByte (Config.draw8 s.draws) (tickDraws s)

/-- A word read of any value (R167). -/
def replyAnyWord (s : State) : Out := replyWord (Config.draw16 s.draws) (tickDraws s)

/-- A write that does nothing to the block (R109, R172, R75). -/
def ignoreWrite (_v : Byte) (s : State) : Out := .next s

/-- The guard of every secondary access (R202): it is refused unless an instruction is in flight. -/
def duringInstruction (f : State → Out) (s : State) : Out :=
  if s.blk.secBusy then f s else .refused .accessOutsideInstruction

/-! ### External collaborators -/

/-- The sound device's answer to the next read of a register: any value (R5, U8). -/
def soundAnswer (s : State) (reg : BitVec 2) : Byte := Config.soundRead s.draws reg

/-- The VDP's answer to the next read of a port offset: any value (R5, U8). -/
def vdpAnswer (s : State) (port : BitVec 5) : Half := Config.vdpRead16 s.draws port

/-- Primary memory's answer to the next byte read: any value (R5, R56, U8). -/
def primaryAnswer (s : State) (a : PrimaryAddr) : Byte := Config.primaryMemRead8 s.draws a

/-- One `SoundRead(reg)`, whose byte becomes the operation's result through `reply`. -/
def readSound (reg : BitVec 2) (reply : Byte → Result) (s : State) : Out :=
  .next (setResult (reply (soundAnswer s reg)) (logAccess (.soundRead reg (soundAnswer s reg)) (tickDraws s)))

/-- One `SoundWrite(reg, v)`. -/
def writeSound (reg : BitVec 2) (v : Byte) (s : State) : Out := .next (logAccess (.soundWrite reg v) s)

/-- One `VdpRead16(port)`, of which `lane` picks the result byte. -/
def readVdp (port : BitVec 5) (lane : Half → Byte) (s : State) : Out :=
  .next (setResult (.byte (lane (vdpAnswer s port))) (logAccess (.vdpRead port (vdpAnswer s port)) (tickDraws s)))

/-- One `VdpWrite16(port, w)`. -/
def writeVdp (port : BitVec 5) (w : Half) (s : State) : Out := .next (logAccess (.vdpWrite port w) s)

/-- `PrimaryMemRead8(ea)` through the bank window, refused in the block's own windows (R196, R56). -/
def readWindow (ea : PrimaryAddr) (s : State) : Out :=
  if inOwnWindow ea then .refused (.windowIntoSelf ea)
  else .next (setResult (.byte (primaryAnswer s ea)) (logAccess (.primaryRead ea (primaryAnswer s ea)) (tickDraws s)))

/-- `PrimaryMemWrite8(ea, v)` through the bank window, refused in the block's own windows (R197, R56). -/
def writeWindow (ea : PrimaryAddr) (v : Byte) (s : State) : Out :=
  if inOwnWindow ea then .refused (.windowIntoSelf ea) else .next (logAccess (.primaryWrite ea v) s)

/-! ### Power-on, hardware reset, restore -/

/-- The block at the power-on that takes draw `seed` (R250). -/
def powerOnBlock (seed : Nat) : Block :=
  { port0 := zeroPort, port1 := zeroPort, port2 := zeroPort, now := 0
    isReset := true, busReq := false, busAck := false, secBusy := false
    bankSr := 0, bankCount := 0, bankBase := 0, sram := [], sramSeed := seed }

/-- The block at a hardware reset (R251). -/
def hardwareResetBlock (b : Block) : Block :=
  { mapPorts hardwareResetPort b with isReset := true, busReq := false, busAck := false, secBusy := false }

/-- A port meets R13 (SEL), R14 (STAGE in 0..4) and R142 (no due timer). -/
def portConsistent (now : Nat) (q : Port) : Bool :=
  decide (q.sel = lineLevel q.ctrl q.data) && decide (q.stage ≤ Config.stageMax) && !timerDue now q

/-- The arbiter invariants of R27: `BUS_ACK => BUS_REQ` and `BUS_ACK => not SEC_BUSY`. -/
def arbiterConsistent (b : Block) : Bool := (!b.busAck || b.busReq) && (!b.busAck || !b.secBusy)

/-- The bank register meets R23 (count in 0..9) and R24 (the base follows the shift register). -/
def bankConsistent (b : Block) : Bool :=
  decide (b.bankBase = bankBaseOf b.bankSr) && decide (b.bankCount ≤ Config.bankCountMax)

/-- The invariants H.RESTORE checks (R263), and SharedRAM in the model's canonical form (log entry 18). -/
def blockConsistent (b : Block) : Bool :=
  portConsistent b.now b.port0 && portConsistent b.now b.port1 && portConsistent b.now b.port2 &&
  arbiterConsistent b && bankConsistent b && Memory.wf b.sram

/-! ### Fetching a request -/

/-- The refusal a decoder's reason becomes (R222). -/
def refusalOf : DecodeRefusal → Refusal
  | .notInBlock a => .notInBlock a
  | .malformed w => .malformed w
  | .misaligned a => .misaligned a
  | .wrongWidth => .wrongWidth

/-- The state an operation starts in: its request has left the schedule and nothing has been returned yet. -/
def beginOperation (rest : List Request) (s : State) : State := { s with schedule := rest, result := .none }

end Sys2Proof.Machine
end

