-- ==== Sys2Proof/Machine/Arbiter.lean ====
section
/-! DEFINITION. The meanings of the bus-request, reset and bank registers and of the arbiter's events
(42_bus_arbiter.md). -/

namespace Sys2Proof.Machine

/-- Byte read of the bus-grant status: `{ draw7(), g }` (R166). -/
def readGrantByte (s : State) : Out :=
  replyByte (Config.draw7 s.draws ++ grantBit s.blk.busAck) (tickDraws s)

/-- Word read of the bus-grant status: `{ draw7(), g, draw8() }` (R166). -/
def readGrantWord (s : State) : Out :=
  replyWord (lanes (Config.draw7 s.draws ++ grantBit s.blk.busAck) (Config.draw8 s.draws)) (tickDraws s)

/-- P.RB.BUSREQ (R166). -/
def execPRbBusreq (s : State) : Out := readGrantByte s

/-- P.WB.BUSREQ (R164). -/
def execPWbBusreq (v : Byte) (s : State) : Out := updateBlock (requestBus (controlBitOfByte v)) s

/-- P.RW.BUSREQ (R166). -/
def execPRwBusreq (s : State) : Out := readGrantWord s

/-- P.WW.BUSREQ (R164). -/
def execPWwBusreq (v : Half) (s : State) : Out := updateBlock (requestBus (controlBitOfWord v)) s

/-- P.RB.BUSREQ.LO (R172). -/
def execPRbBusreqLo (s : State) : Out := replyAnyByte s

/-- P.WB.BUSREQ.LO (R172). -/
def execPWbBusreqLo (v : Byte) (s : State) : Out := ignoreWrite v s

/-- P.RB.RESET (R167). -/
def execPRbReset (s : State) : Out := replyAnyByte s

/-- P.WB.RESET (R168). -/
def execPWbReset (v : Byte) (s : State) : Out := updateBlock (requestReset (controlBitOfByte v)) s

/-- P.RW.RESET (R167). -/
def execPRwReset (s : State) : Out := replyAnyWord s

/-- P.WW.RESET (R168). -/
def execPWwReset (v : Half) (s : State) : Out := updateBlock (requestReset (controlBitOfWord v)) s

/-- P.RB.RESET.LO (R172). -/
def execPRbResetLo (s : State) : Out := replyAnyByte s

/-- P.WB.RESET.LO (R172). -/
def execPWbResetLo (v : Byte) (s : State) : Out := ignoreWrite v s

/-- S.RB.BANK (R171). -/
def execSRbBank (_off : BitVec 8) (s : State) : Out := duringInstruction replyAnyByte s

/-- S.WB.BANK (R170). -/
def execSWbBank (_off : BitVec 8) (v : Byte) (s : State) : Out :=
  duringInstruction (updateBlock (bankShift (controlBitOfByte v))) s

/-- S.BEGIN (R162). With the guard false the operation is a hold (R223):
no step, nothing recorded (log entry 4). -/
def execSBegin (s : State) : Out :=
  if secMayBegin s.blk then updateBlock (fun b => { b with secBusy := true }) s else .next s

/-- S.END (R163). -/
def execSEnd (s : State) : Out :=
  if s.blk.secBusy then updateBlock (fun b => { b with secBusy := false }) s else .refused .endWithoutBegin

/-- ARB.ACK (R165). With the guard false the operation is a hold (R223):
no step, nothing recorded (log entry 4). -/
def execArbAck (s : State) : Out :=
  if ackDue s.blk then updateBlock (fun b => { b with busAck := true }) s else .next s

end Sys2Proof.Machine
end

