-- ==== Sys2Proof/Machine/Bridge.lean ====
section
/-! DEFINITION. The meanings of the cross-bus paths (43_cross_bus_bridge.md): SharedRAM and the sound device
from both sides, the VDP relay and the bank window. -/

namespace Sys2Proof.Machine

/-- A primary write path: without the grant the write is dropped (R191, R193). -/
def whileGranted (f : State → Out) (s : State) : Out := if s.blk.busAck then f s else .next s

/-- P.RB.SRAM (R190). -/
def execPRbSram (off : BitVec 14) (s : State) : Out := replyByte (sramRead s.blk (sramIndex off)) s

/-- P.WB.SRAM (R191). -/
def execPWbSram (off : BitVec 14) (v : Byte) (s : State) : Out := whileGranted (updateBlock (sramWrite (sramIndex off) v)) s

/-- P.RW.SRAM (R190). The byte is in both lanes. -/
def execPRwSram (off : BitVec 14) (s : State) : Out :=
  let b := sramRead s.blk (sramIndex off)
  replyWord (lanes b b) s

/-- P.WW.SRAM (R191). Bits 15..8 are stored. -/
def execPWwSram (off : BitVec 14) (v : Half) (s : State) : Out :=
  whileGranted (updateBlock (sramWrite (sramIndex off) (highLane v))) s

/-- P.RB.SND (R192). The contention value is 0xFF. -/
def execPRbSnd (off : BitVec 13) (s : State) : Out :=
  if s.blk.busAck then readSound (soundRegister off) .byte s else replyByte 0xFF#8 s

/-- P.WB.SND (R193). -/
def execPWbSnd (off : BitVec 13) (v : Byte) (s : State) : Out := whileGranted (writeSound (soundRegister off) v) s

/-- P.RW.SND (R192). One device access, its byte in both lanes; the
contention value is 0xFFFF. -/
def execPRwSnd (off : BitVec 13) (s : State) : Out :=
  if s.blk.busAck then readSound (soundRegister off) (fun b => .word (lanes b b)) s else replyWord 0xFFFF#16 s

/-- P.WW.SND (R193). -/
def execPWwSnd (off : BitVec 13) (v : Half) (s : State) : Out :=
  whileGranted (writeSound (soundRegister off) (highLane v)) s

/-- S.RB.SRAM (R194). -/
def execSRbSram (off : BitVec 14) (s : State) : Out :=
  duringInstruction (fun s => replyByte (sramRead s.blk (sramIndex off)) s) s

/-- S.WB.SRAM (R195). -/
def execSWbSram (off : BitVec 14) (v : Byte) (s : State) : Out :=
  duringInstruction (updateBlock (sramWrite (sramIndex off) v)) s

/-- S.RB.SND (R200). -/
def execSRbSnd (off : BitVec 13) (s : State) : Out := duringInstruction (readSound (soundRegister off) .byte) s

/-- S.WB.SND (R201). -/
def execSWbSnd (off : BitVec 13) (v : Byte) (s : State) : Out := duringInstruction (writeSound (soundRegister off) v) s

/-- S.RB.VDP (R198). -/
def execSRbVdp (off : BitVec 5) (s : State) : Out := duringInstruction (readVdp (vdpPort off) (vdpLane off)) s

/-- S.WB.VDP (R199). The byte is in both lanes. -/
def execSWbVdp (off : BitVec 5) (v : Byte) (s : State) : Out := duringInstruction (writeVdp (vdpPort off) (lanes v v)) s

/-- S.RB.WIN (R196). -/
def execSRbWin (off : BitVec 15) (s : State) : Out :=
  duringInstruction (fun s => readWindow (windowEA s.blk.bankBase off) s) s

/-- S.WB.WIN (R197). -/
def execSWbWin (off : BitVec 15) (v : Byte) (s : State) : Out :=
  duringInstruction (fun s => writeWindow (windowEA s.blk.bankBase off) v s) s

end Sys2Proof.Machine
end

