-- ==== Sys2Proof/Machine/HostEvents.lean ====
section
/-! DEFINITION. The meanings of the host's and the input collaborator's events (70_reset_and_hazards.md, R115). -/

namespace Sys2Proof.Machine

/-- H.RESET (R251). -/
def execHReset (s : State) : Out := updateBlock hardwareResetBlock s

/-- H.POWERON (R250). Each SharedRAM byte is a fresh draw. -/
def execHPoweron (s : State) : Out := updateBlock (fun _ => powerOnBlock s.draws) (tickDraws s)

/-- I.PADSET (R115). -/
def execIPadset (p : Nat) (pad : Pad) (s : State) : Out :=
  match portOperand p with
  | some q => .next (setPad q pad s)
  | none => .refused (.badPort p)

/-- H.SAVE (R262). It returns every persisted field (R38). -/
def execHSave (s : State) : Out := .next (setResult (.saved s.blk) s)

/-- H.RESTORE (R263). DESIGN CHOICE (log entry 28): the record's power-on draw is not compared with the draw counter
and does not move it, so a record may name a draw this run has not taken. -/
def execHRestore (r : Block) (s : State) : Out :=
  if blockConsistent r then .next (setBlk r s) else .refused .inconsistentRestore

end Sys2Proof.Machine
end

