-- ==== Sys2Proof/Machine/Ports.lean ====
section
/-! DEFINITION. The meanings of the port-register accesses (40_controller_ports.md): 18 per port, each one line
over a shared operation. -/

namespace Sys2Proof.Machine

/-! ### Shared forms -/

/-- Byte read of DATA[p] (R103). -/
def readDataByte (p : PortId) (s : State) : Out := replyByte (dataValue s p) s

/-- Word read of DATA[p] (R103). -/
def readDataWord (p : PortId) (s : State) : Out := replyLowLane (dataValue s p) s

/-- Byte read of CTRL[p] (R105). -/
def readCtrlByte (p : PortId) (s : State) : Out := replyByte (getPort s.blk p).ctrl s

/-- Word read of CTRL[p] (R105). -/
def readCtrlWord (p : PortId) (s : State) : Out := replyLowLane (getPort s.blk p).ctrl s

/-- Byte read of SERIAL[p] (R107). -/
def readSerialByte (p : PortId) (s : State) : Out := replyByte (getPort s.blk p).serial s

/-- Word read of SERIAL[p] (R107). -/
def readSerialWord (p : PortId) (s : State) : Out := replyLowLane (getPort s.blk p).serial s

/-- Write of DATA[p] (R104). -/
def writeDataReg (p : PortId) (v : Byte) (s : State) : Out :=
  updatePort p (writeData Config.timeout s.blk.now v) s

/-- Write of CTRL[p] (R106). -/
def writeCtrlReg (p : PortId) (v : Byte) (s : State) : Out :=
  updatePort p (writeCtrl Config.timeout s.blk.now v) s

/-- Write of SERIAL[p] (R108). -/
def writeSerialReg (p : PortId) (v : Byte) (s : State) : Out := updatePort p (writeSerial v) s

/-! ### The instructions -/

/-- P.RB.DATA0 (R103). -/
def execPRbData0 (s : State) : Out := readDataByte 0 s

/-- P.WB.DATA0 (R104). -/
def execPWbData0 (v : Byte) (s : State) : Out := writeDataReg 0 v s

/-- P.RW.DATA0 (R103). -/
def execPRwData0 (s : State) : Out := readDataWord 0 s

/-- P.WW.DATA0 (R104). -/
def execPWwData0 (v : Half) (s : State) : Out := writeDataReg 0 (lowLane v) s

/-- P.RB.DATA0.HI (R109). -/
def execPRbData0Hi (s : State) : Out := replyAnyByte s

/-- P.WB.DATA0.HI (R109). -/
def execPWbData0Hi (v : Byte) (s : State) : Out := ignoreWrite v s

/-- P.RB.CTRL0 (R105). -/
def execPRbCtrl0 (s : State) : Out := readCtrlByte 0 s

/-- P.WB.CTRL0 (R106). -/
def execPWbCtrl0 (v : Byte) (s : State) : Out := writeCtrlReg 0 v s

/-- P.RW.CTRL0 (R105). -/
def execPRwCtrl0 (s : State) : Out := readCtrlWord 0 s

/-- P.WW.CTRL0 (R106). -/
def execPWwCtrl0 (v : Half) (s : State) : Out := writeCtrlReg 0 (lowLane v) s

/-- P.RB.CTRL0.HI (R109). -/
def execPRbCtrl0Hi (s : State) : Out := replyAnyByte s

/-- P.WB.CTRL0.HI (R109). -/
def execPWbCtrl0Hi (v : Byte) (s : State) : Out := ignoreWrite v s

/-- P.RB.SERIAL0 (R107). -/
def execPRbSerial0 (s : State) : Out := readSerialByte 0 s

/-- P.WB.SERIAL0 (R108). -/
def execPWbSerial0 (v : Byte) (s : State) : Out := writeSerialReg 0 v s

/-- P.RW.SERIAL0 (R107). -/
def execPRwSerial0 (s : State) : Out := readSerialWord 0 s

/-- P.WW.SERIAL0 (R108). -/
def execPWwSerial0 (v : Half) (s : State) : Out := writeSerialReg 0 (lowLane v) s

/-- P.RB.SERIAL0.HI (R109). -/
def execPRbSerial0Hi (s : State) : Out := replyAnyByte s

/-- P.WB.SERIAL0.HI (R109). -/
def execPWbSerial0Hi (v : Byte) (s : State) : Out := ignoreWrite v s

/-- P.RB.DATA1 (R103). -/
def execPRbData1 (s : State) : Out := readDataByte 1 s

/-- P.WB.DATA1 (R104). -/
def execPWbData1 (v : Byte) (s : State) : Out := writeDataReg 1 v s

/-- P.RW.DATA1 (R103). -/
def execPRwData1 (s : State) : Out := readDataWord 1 s

/-- P.WW.DATA1 (R104). -/
def execPWwData1 (v : Half) (s : State) : Out := writeDataReg 1 (lowLane v) s

/-- P.RB.DATA1.HI (R109). -/
def execPRbData1Hi (s : State) : Out := replyAnyByte s

/-- P.WB.DATA1.HI (R109). -/
def execPWbData1Hi (v : Byte) (s : State) : Out := ignoreWrite v s

/-- P.RB.CTRL1 (R105). -/
def execPRbCtrl1 (s : State) : Out := readCtrlByte 1 s

/-- P.WB.CTRL1 (R106). -/
def execPWbCtrl1 (v : Byte) (s : State) : Out := writeCtrlReg 1 v s

/-- P.RW.CTRL1 (R105). -/
def execPRwCtrl1 (s : State) : Out := readCtrlWord 1 s

/-- P.WW.CTRL1 (R106). -/
def execPWwCtrl1 (v : Half) (s : State) : Out := writeCtrlReg 1 (lowLane v) s

/-- P.RB.CTRL1.HI (R109). -/
def execPRbCtrl1Hi (s : State) : Out := replyAnyByte s

/-- P.WB.CTRL1.HI (R109). -/
def execPWbCtrl1Hi (v : Byte) (s : State) : Out := ignoreWrite v s

/-- P.RB.SERIAL1 (R107). -/
def execPRbSerial1 (s : State) : Out := readSerialByte 1 s

/-- P.WB.SERIAL1 (R108). -/
def execPWbSerial1 (v : Byte) (s : State) : Out := writeSerialReg 1 v s

/-- P.RW.SERIAL1 (R107). -/
def execPRwSerial1 (s : State) : Out := readSerialWord 1 s

/-- P.WW.SERIAL1 (R108). -/
def execPWwSerial1 (v : Half) (s : State) : Out := writeSerialReg 1 (lowLane v) s

/-- P.RB.SERIAL1.HI (R109). -/
def execPRbSerial1Hi (s : State) : Out := replyAnyByte s

/-- P.WB.SERIAL1.HI (R109). -/
def execPWbSerial1Hi (v : Byte) (s : State) : Out := ignoreWrite v s

/-- P.RB.DATA2 (R103). -/
def execPRbData2 (s : State) : Out := readDataByte 2 s

/-- P.WB.DATA2 (R104). -/
def execPWbData2 (v : Byte) (s : State) : Out := writeDataReg 2 v s

/-- P.RW.DATA2 (R103). -/
def execPRwData2 (s : State) : Out := readDataWord 2 s

/-- P.WW.DATA2 (R104). -/
def execPWwData2 (v : Half) (s : State) : Out := writeDataReg 2 (lowLane v) s

/-- P.RB.DATA2.HI (R109). -/
def execPRbData2Hi (s : State) : Out := replyAnyByte s

/-- P.WB.DATA2.HI (R109). -/
def execPWbData2Hi (v : Byte) (s : State) : Out := ignoreWrite v s

/-- P.RB.CTRL2 (R105). -/
def execPRbCtrl2 (s : State) : Out := readCtrlByte 2 s

/-- P.WB.CTRL2 (R106). -/
def execPWbCtrl2 (v : Byte) (s : State) : Out := writeCtrlReg 2 v s

/-- P.RW.CTRL2 (R105). -/
def execPRwCtrl2 (s : State) : Out := readCtrlWord 2 s

/-- P.WW.CTRL2 (R106). -/
def execPWwCtrl2 (v : Half) (s : State) : Out := writeCtrlReg 2 (lowLane v) s

/-- P.RB.CTRL2.HI (R109). -/
def execPRbCtrl2Hi (s : State) : Out := replyAnyByte s

/-- P.WB.CTRL2.HI (R109). -/
def execPWbCtrl2Hi (v : Byte) (s : State) : Out := ignoreWrite v s

/-- P.RB.SERIAL2 (R107). -/
def execPRbSerial2 (s : State) : Out := readSerialByte 2 s

/-- P.WB.SERIAL2 (R108). -/
def execPWbSerial2 (v : Byte) (s : State) : Out := writeSerialReg 2 v s

/-- P.RW.SERIAL2 (R107). -/
def execPRwSerial2 (s : State) : Out := readSerialWord 2 s

/-- P.WW.SERIAL2 (R108). -/
def execPWwSerial2 (v : Half) (s : State) : Out := writeSerialReg 2 (lowLane v) s

/-- P.RB.SERIAL2.HI (R109). -/
def execPRbSerial2Hi (s : State) : Out := replyAnyByte s

/-- P.WB.SERIAL2.HI (R109). -/
def execPWbSerial2Hi (v : Byte) (s : State) : Out := ignoreWrite v s

end Sys2Proof.Machine
end

