-- ==== Sys2Proof/Machine/Timer.lean ====
section
/-! DEFINITION. The meanings of the time-base events (41_port_timeout.md). -/

namespace Sys2Proof.Machine

/-- Time moves first, then every due timer fires (R141, R224). -/
def advanceTime (dt : Nat) (b : Block) : Block :=
  mapPorts (expireIfDue (b.now + dt)) { b with now := b.now + dt }

/-- T.ADV (R141). -/
def execTAdv (dt : Nat) (s : State) : Out := updateBlock (advanceTime dt) s

/-- T.EXPIRE (R143). A stale or early callback is ignored. -/
def execTExpire (p : Nat) (g : Nat) (s : State) : Out :=
  match portOperand p with
  | some q => updatePort q (fun port => if callbackValid s.blk.now g port then expireEffect port else port) s
  | none => .refused (.badPort p)

end Sys2Proof.Machine
end

