-- ==== Sys2Proof/Machine/Dispatch.lean ====
section
/-! DEFINITION. One arm per constructor of Instr, each one call of its meaning. -/

namespace Sys2Proof.Machine

def exec (i : Instr) (s : State) : Host.Outcome State Fault Refusal :=
  match i with
  | .pRbData0 => Sys2Proof.Machine.execPRbData0 s
  | .pWbData0 v => Sys2Proof.Machine.execPWbData0 v s
  | .pRwData0 => Sys2Proof.Machine.execPRwData0 s
  | .pWwData0 v => Sys2Proof.Machine.execPWwData0 v s
  | .pRbData0Hi => Sys2Proof.Machine.execPRbData0Hi s
  | .pWbData0Hi v => Sys2Proof.Machine.execPWbData0Hi v s
  | .pRbCtrl0 => Sys2Proof.Machine.execPRbCtrl0 s
  | .pWbCtrl0 v => Sys2Proof.Machine.execPWbCtrl0 v s
  | .pRwCtrl0 => Sys2Proof.Machine.execPRwCtrl0 s
  | .pWwCtrl0 v => Sys2Proof.Machine.execPWwCtrl0 v s
  | .pRbCtrl0Hi => Sys2Proof.Machine.execPRbCtrl0Hi s
  | .pWbCtrl0Hi v => Sys2Proof.Machine.execPWbCtrl0Hi v s
  | .pRbSerial0 => Sys2Proof.Machine.execPRbSerial0 s
  | .pWbSerial0 v => Sys2Proof.Machine.execPWbSerial0 v s
  | .pRwSerial0 => Sys2Proof.Machine.execPRwSerial0 s
  | .pWwSerial0 v => Sys2Proof.Machine.execPWwSerial0 v s
  | .pRbSerial0Hi => Sys2Proof.Machine.execPRbSerial0Hi s
  | .pWbSerial0Hi v => Sys2Proof.Machine.execPWbSerial0Hi v s
  | .pRbData1 => Sys2Proof.Machine.execPRbData1 s
  | .pWbData1 v => Sys2Proof.Machine.execPWbData1 v s
  | .pRwData1 => Sys2Proof.Machine.execPRwData1 s
  | .pWwData1 v => Sys2Proof.Machine.execPWwData1 v s
  | .pRbData1Hi => Sys2Proof.Machine.execPRbData1Hi s
  | .pWbData1Hi v => Sys2Proof.Machine.execPWbData1Hi v s
  | .pRbCtrl1 => Sys2Proof.Machine.execPRbCtrl1 s
  | .pWbCtrl1 v => Sys2Proof.Machine.execPWbCtrl1 v s
  | .pRwCtrl1 => Sys2Proof.Machine.execPRwCtrl1 s
  | .pWwCtrl1 v => Sys2Proof.Machine.execPWwCtrl1 v s
  | .pRbCtrl1Hi => Sys2Proof.Machine.execPRbCtrl1Hi s
  | .pWbCtrl1Hi v => Sys2Proof.Machine.execPWbCtrl1Hi v s
  | .pRbSerial1 => Sys2Proof.Machine.execPRbSerial1 s
  | .pWbSerial1 v => Sys2Proof.Machine.execPWbSerial1 v s
  | .pRwSerial1 => Sys2Proof.Machine.execPRwSerial1 s
  | .pWwSerial1 v => Sys2Proof.Machine.execPWwSerial1 v s
  | .pRbSerial1Hi => Sys2Proof.Machine.execPRbSerial1Hi s
  | .pWbSerial1Hi v => Sys2Proof.Machine.execPWbSerial1Hi v s
  | .pRbData2 => Sys2Proof.Machine.execPRbData2 s
  | .pWbData2 v => Sys2Proof.Machine.execPWbData2 v s
  | .pRwData2 => Sys2Proof.Machine.execPRwData2 s
  | .pWwData2 v => Sys2Proof.Machine.execPWwData2 v s
  | .pRbData2Hi => Sys2Proof.Machine.execPRbData2Hi s
  | .pWbData2Hi v => Sys2Proof.Machine.execPWbData2Hi v s
  | .pRbCtrl2 => Sys2Proof.Machine.execPRbCtrl2 s
  | .pWbCtrl2 v => Sys2Proof.Machine.execPWbCtrl2 v s
  | .pRwCtrl2 => Sys2Proof.Machine.execPRwCtrl2 s
  | .pWwCtrl2 v => Sys2Proof.Machine.execPWwCtrl2 v s
  | .pRbCtrl2Hi => Sys2Proof.Machine.execPRbCtrl2Hi s
  | .pWbCtrl2Hi v => Sys2Proof.Machine.execPWbCtrl2Hi v s
  | .pRbSerial2 => Sys2Proof.Machine.execPRbSerial2 s
  | .pWbSerial2 v => Sys2Proof.Machine.execPWbSerial2 v s
  | .pRwSerial2 => Sys2Proof.Machine.execPRwSerial2 s
  | .pWwSerial2 v => Sys2Proof.Machine.execPWwSerial2 v s
  | .pRbSerial2Hi => Sys2Proof.Machine.execPRbSerial2Hi s
  | .pWbSerial2Hi v => Sys2Proof.Machine.execPWbSerial2Hi v s
  | .pRbBusreq => Sys2Proof.Machine.execPRbBusreq s
  | .pWbBusreq v => Sys2Proof.Machine.execPWbBusreq v s
  | .pRwBusreq => Sys2Proof.Machine.execPRwBusreq s
  | .pWwBusreq v => Sys2Proof.Machine.execPWwBusreq v s
  | .pRbBusreqLo => Sys2Proof.Machine.execPRbBusreqLo s
  | .pWbBusreqLo v => Sys2Proof.Machine.execPWbBusreqLo v s
  | .pRbReset => Sys2Proof.Machine.execPRbReset s
  | .pWbReset v => Sys2Proof.Machine.execPWbReset v s
  | .pRwReset => Sys2Proof.Machine.execPRwReset s
  | .pWwReset v => Sys2Proof.Machine.execPWwReset v s
  | .pRbResetLo => Sys2Proof.Machine.execPRbResetLo s
  | .pWbResetLo v => Sys2Proof.Machine.execPWbResetLo v s
  | .pRbSram off => Sys2Proof.Machine.execPRbSram off s
  | .pWbSram off v => Sys2Proof.Machine.execPWbSram off v s
  | .pRwSram off => Sys2Proof.Machine.execPRwSram off s
  | .pWwSram off v => Sys2Proof.Machine.execPWwSram off v s
  | .pRbSnd off => Sys2Proof.Machine.execPRbSnd off s
  | .pWbSnd off v => Sys2Proof.Machine.execPWbSnd off v s
  | .pRwSnd off => Sys2Proof.Machine.execPRwSnd off s
  | .pWwSnd off v => Sys2Proof.Machine.execPWwSnd off v s
  | .sRbSram off => Sys2Proof.Machine.execSRbSram off s
  | .sWbSram off v => Sys2Proof.Machine.execSWbSram off v s
  | .sRbSnd off => Sys2Proof.Machine.execSRbSnd off s
  | .sWbSnd off v => Sys2Proof.Machine.execSWbSnd off v s
  | .sRbBank off => Sys2Proof.Machine.execSRbBank off s
  | .sWbBank off v => Sys2Proof.Machine.execSWbBank off v s
  | .sRbVdp off => Sys2Proof.Machine.execSRbVdp off s
  | .sWbVdp off v => Sys2Proof.Machine.execSWbVdp off v s
  | .sRbWin off => Sys2Proof.Machine.execSRbWin off s
  | .sWbWin off v => Sys2Proof.Machine.execSWbWin off v s
  | .sBegin => Sys2Proof.Machine.execSBegin s
  | .sEnd => Sys2Proof.Machine.execSEnd s
  | .arbAck => Sys2Proof.Machine.execArbAck s
  | .tAdv dt => Sys2Proof.Machine.execTAdv dt s
  | .tExpire p g => Sys2Proof.Machine.execTExpire p g s
  | .hReset => Sys2Proof.Machine.execHReset s
  | .hPoweron => Sys2Proof.Machine.execHPoweron s
  | .iPadset p pad => Sys2Proof.Machine.execIPadset p pad s
  | .hSave => Sys2Proof.Machine.execHSave s
  | .hRestore r => Sys2Proof.Machine.execHRestore r s

end Sys2Proof.Machine
end

