-- ==== Sys2Proof/Machine/Step.lean ====
section
/-! DEFINITION. One step: the block applies the scheduler's next operation (R1). -/

namespace Sys2Proof.Machine

/-- Decode the next request and run it; a word that spells no operation is refused (R63, R222). With nothing
scheduled the block waits (log entry 3). -/
def step (s : State) : Host.Outcome State Fault Refusal :=
  match s.schedule with
  | [] => .next s
  | q :: rest =>
    match decode q with
    | .ok i => exec i (beginOperation rest s)
    | .error e => .refused (refusalOf e)

/-- The state with an operation word of `nbits` bits `w`, no operand beside it, scheduled next. -/
def State.withFetchWord (s : State) (nbits w : Nat) : State :=
  { s with schedule := bare (BitVec.ofNat 32 (w % 2 ^ nbits)) :: s.schedule }

end Sys2Proof.Machine
end

