-- ==== Sys2Proof/Machine/Trace.lean ====
section
/-! DEFINITION. Traces (30_encoding.md R77) and pseudo-operations (R78): how a written line becomes a request of the
schedule. -/

namespace Sys2Proof.Machine

/-- One line of a trace (R77). -/
inductive TraceLine where
  /-- `P.RB addr`. -/
  | pRb (a : PrimaryAddr)
  /-- `P.RW addr`. -/
  | pRw (a : PrimaryAddr)
  /-- `P.WB addr, v`. -/
  | pWb (a : PrimaryAddr) (v : Byte)
  /-- `P.WW addr, v`. -/
  | pWw (a : PrimaryAddr) (v : Half)
  /-- `S.RB addr`. -/
  | sRb (a : BitVec 16)
  /-- `S.WB addr, v`. -/
  | sWb (a : BitVec 16) (v : Byte)
  /-- `S.BEGIN`. -/
  | sBegin
  /-- `S.END`. -/
  | sEnd
  /-- `ARB.ACK`. -/
  | arbAck
  /-- `T.ADV dt`. -/
  | tAdv (dt : Nat)
  /-- `T.EXPIRE p, g`. -/
  | tExpire (p g : Nat)
  /-- `H.RESET`. -/
  | hReset
  /-- `H.POWERON`. -/
  | hPoweron
  /-- `I.PADSET p, buttons`. -/
  | iPadset (p : Nat) (pad : Pad)
  /-- `H.SAVE`. -/
  | hSave
  /-- `H.RESTORE s`. -/
  | hRestore (r : Block)
  deriving DecidableEq, Repr

/-- `KIND, W, SZ, 00, ADDR` of R61. -/
def operationWord (kind : BitVec 4) (write word : Bool) (addr : BitVec 24) : OpWord :=
  kind ++ BitVec.ofBool write ++ BitVec.ofBool word ++ 0#2 ++ addr

/-- An event's word: only KIND is not 0 (R61). -/
def eventWord (kind : BitVec 4) : OpWord := operationWord kind false false 0

/-- The request a trace line stands for (R77). -/
def TraceLine.request : TraceLine → Request
  | .pRb a => bare (operationWord 0 false false a)
  | .pRw a => bare (operationWord 0 false true a)
  | .pWb a v => withData (operationWord 0 true false a) (v.setWidth 16)
  | .pWw a v => withData (operationWord 0 true true a) v
  | .sRb a => bare (operationWord 1 false false (a.setWidth 24))
  | .sWb a v => withData (operationWord 1 true false (a.setWidth 24)) (v.setWidth 16)
  | .sBegin => bare (eventWord 2)
  | .sEnd => bare (eventWord 3)
  | .arbAck => bare (eventWord 4)
  | .tAdv dt => ⟨eventWord 5, { Operands.zero with dt := dt }⟩
  | .tExpire p g => ⟨eventWord 6, { Operands.zero with port := p, gen := g }⟩
  | .hReset => bare (eventWord 7)
  | .hPoweron => bare (eventWord 8)
  | .iPadset p pad => ⟨eventWord 9, { Operands.zero with port := p, pad := pad }⟩
  | .hSave => bare (eventWord 10)
  | .hRestore r => ⟨eventWord 11, { Operands.zero with record := r }⟩

/-- The pseudo-operations (R78). -/
inductive Pseudo where
  /-- `TH p, v`. -/
  | th (p : PortId) (v : Byte)
  /-- `BANK.SET n`. -/
  | bankSet (n : BitVec 9)
  /-- `BUSREQ.ON`. -/
  | busreqOn
  /-- `BUSREQ.OFF`. -/
  | busreqOff
  /-- `SECRESET.ON`. -/
  | secresetOn
  /-- `SECRESET.OFF`. -/
  | secresetOff
  /-- `BUSREQ.WAIT`. -/
  | busreqWait
  deriving DecidableEq, Repr

/-- What a pseudo-operation abbreviates (R78). -/
inductive Expansion where
  /-- These operations, in order. -/
  | operations (lines : List TraceLine)
  /-- This operation, repeated until its result shows the bus granted. -/
  | untilGranted (poll : TraceLine)
  deriving DecidableEq, Repr

/-- One bit of BANK.SET: a shift inside its own instruction (R78). -/
def bankSetBit (bit : Bool) : List TraceLine :=
  [.sBegin, .sWb 0x6000 (BitVec.setWidth 8 (BitVec.ofBool bit)), .sEnd]

/-- The right side of R78's table. -/
def Pseudo.expand : Pseudo → Expansion
  | .th p v => .operations [.pWb (0xA10003 + 2 * BitVec.ofNat 24 p.val) v]
  | .bankSet n => .operations ((List.range 9).flatMap (fun k => bankSetBit (n.getLsbD k)))
  | .busreqOn => .operations [.pWw 0xA11100 0x0100]
  | .busreqOff => .operations [.pWw 0xA11100 0x0000]
  | .secresetOn => .operations [.pWw 0xA11200 0x0000]
  | .secresetOff => .operations [.pWw 0xA11200 0x0100]
  | .busreqWait => .untilGranted (.pRw 0xA11100)

/-! ### Running written lines -/

/-- The state with a trace as its schedule. -/
def State.withTrace (s : State) (lines : List TraceLine) : State :=
  { s with schedule := lines.map TraceLine.request }

/-- The step that applies one line, put in front of whatever else is scheduled. -/
def runLine (line : TraceLine) (s : State) : Out := step { s with schedule := line.request :: s.schedule }

/-- The steps that apply lines in order, up to the first that gives no next state. -/
def runLines : List TraceLine → State → Out
  | [], s => .next s
  | line :: lines, s =>
    match runLine line s with
    | .next t => runLines lines t
    | .fault r => .fault r
    | .refused r => .refused r

/-- How the run of a pseudo-operation stands. -/
inductive PseudoRun where
  /-- It is complete. The groups of other operations it did not come to are left over. -/
  | done (s : State) (left : List (List TraceLine))
  /-- It still repeats: every poll made so far showed "not granted". -/
  | waiting (s : State)
  /-- An operation gave no next state. -/
  | stopped (r : Refusal)
  deriving DecidableEq, Repr

/-- Bit 8 of a poll's result is 0 (R78): granted (R72). -/
def showsGranted : Result → Bool
  | .word w => !w.getLsbD 8
  | .none => false
  | .byte _ => false
  | .saved _ => false

/-- A run of lines as the run of a pseudo-operation. -/
def completed (left : List (List TraceLine)) : Out → PseudoRun
  | .next s => .done s left
  | .fault r => nomatch r
  | .refused r => .stopped r

/-- Repeat the poll until it shows granted (R78). Before the k-th poll the scheduler applies the k-th group of other
operations; where the groups end with the bus not granted, the repetition goes on (log entry 24). -/
def repeatUntilGranted (poll : TraceLine) : List (List TraceLine) → State → PseudoRun
  | [], s => .waiting s
  | group :: groups, s =>
    match runLines (group ++ [poll]) s with
    | .next t => if showsGranted t.result then .done t groups else repeatUntilGranted poll groups t
    | .fault r => nomatch r
    | .refused r => .stopped r

/-- The run of a pseudo-operation: its expansion, applied. -/
def Pseudo.run (x : Pseudo) (groups : List (List TraceLine)) (s : State) : PseudoRun :=
  match x.expand with
  | .operations lines => completed groups (runLines lines s)
  | .untilGranted poll => repeatUntilGranted poll groups s

end Sys2Proof.Machine
end

