-- ==== Sys2Proof/Safety.lean ====
section
/-! DEFINITION. The terms claims are stated in: the invariant of every state, runs of instructions, which agent
issues an instruction, the register operations by port, and what the pad's pins carry. -/

namespace Sys2Proof.Machine

/-- A port meets R13 (SEL is the line level), R14 (STAGE in 0..4) and R142 (no armed timer is due). -/
abbrev PortInv (now : Nat) (q : Port) : Prop :=
  q.sel = (if q.ctrl.getLsbD 6 then q.data.getLsbD 6 else true) ∧ q.stage ≤ 4 ∧
  (q.armed = true → now < q.deadline)

/-- The invariants of the block: R13, R14, R142 for each port, R27, R23, R24, and SharedRAM in canonical form. -/
abbrev BlockInv (b : Block) : Prop :=
  PortInv b.now b.port0 ∧ PortInv b.now b.port1 ∧ PortInv b.now b.port2 ∧
  (b.busAck = true → b.busReq = true) ∧ (b.busAck = true → b.secBusy = false) ∧
  b.bankBase.toNat = b.bankSr.toNat * 0x8000 ∧ b.bankCount ≤ 9 ∧ Memory.wf b.sram = true

/-- The invariant of a state. -/
abbrev State.Inv (s : State) : Prop := BlockInv s.blk

/-- A port past its stage 0 has an armed timer whose deadline lies T_TIMEOUT after its last transition (R110,
R147). -/
abbrev HandshakeTimed (q : Port) : Prop :=
  q.stage ≠ 0 → q.armed = true ∧ q.deadline = q.lastToggle + Config.timeout

/-- `HandshakeTimed` of every port. -/
abbrev State.Timed (s : State) : Prop :=
  HandshakeTimed s.blk.port0 ∧ HandshakeTimed s.blk.port1 ∧ HandshakeTimed s.blk.port2

/-- The instructions in order, stopping at the first that gives no next state. -/
def execAll : List Instr → State → Out
  | [], s => .next s
  | i :: is, s =>
    match exec i s with
    | .next t => execAll is t
    | .fault r => .fault r
    | .refused r => .refused r

/-- The pseudo-operation abbreviates exactly these instructions, in this order (R78). -/
abbrev ExpandsTo (x : Pseudo) (is : List Instr) : Prop :=
  ∃ lines, x.expand = .operations lines ∧ lines.map (fun line => decode line.request) = is.map .ok

/-- The same outcome with the next state changed by `f`. -/
def mapNext (f : State → State) : Out → Out
  | .next s => .next (f s)
  | .fault r => .fault r
  | .refused r => .refused r

/-- The state with other ports. -/
def withPorts (q0 q1 q2 : Port) (s : State) : State :=
  { s with blk := { s.blk with port0 := q0, port1 := q1, port2 := q2 } }

/-- The state with another reset line. -/
def withIsReset (v : Bool) (s : State) : State := { s with blk := { s.blk with isReset := v } }

/-- A port whose registers, stage and timer fields are 0, whose line is at level 1 and whose timer is disarmed, with
generation `gen` (R29). -/
abbrev clearedPort (gen : Nat) : Port :=
  { data := 0, ctrl := 0, serial := 0, sel := true, stage := 0, lastToggle := 0
    armed := false, deadline := 0, tmrGen := 0, gen := gen }

/-- The address is in one of the block's primary windows (R56), as numbers. -/
abbrev OwnWindow (ea : Nat) : Prop :=
  (0xA00000 ≤ ea ∧ ea ≤ 0xA05FFF) ∨ (0xA10000 ≤ ea ∧ ea ≤ 0xA1001F) ∨
  (0xA11100 ≤ ea ∧ ea ≤ 0xA11101) ∨ (0xA11200 ≤ ea ∧ ea ≤ 0xA11201)

/-- The I/O register indices that 30_encoding.md R64 marks "not in block". -/
abbrev IndexNotInBlock (k : Nat) : Prop := k ∈ [0, 8, 9, 11, 12, 14, 15]

/-- What pin `k` of a port carries: bit 7 is 1, bit 6 the select level, bits 5..0 the row of R69 and R112. -/
def pinLevel (kind : PadKind) (pad : Pad) (q : Port) (k : Nat) : Bool :=
  let sentinel := kind = .pad6 ∧ q.stage = 3
  let extended := kind = .pad6 ∧ q.stage = 4
  match k with
  | 7 => true
  | 6 => q.sel
  | 5 => !(if q.sel then pad.start else pad.c)
  | 4 => !(if q.sel then pad.a else pad.b)
  | 3 => if sentinel then false else !(if extended then pad.mode else pad.right)
  | 2 => if sentinel then false else !(if extended then pad.x else pad.left)
  | 1 => if sentinel then false else !(if extended then pad.y else pad.down)
  | 0 => if sentinel then false else !(if extended then pad.z else pad.up)
  | _ => false

/-- What a write that leaves a port with `q` did to its handshake, `old` being the port before: the line takes its
level (R13, R102); a level that stays changes nothing more; a changed level is one transition (R110, R111). -/
abbrev HandshakeAfterWrite (now : Nat) (old q : Port) : Prop :=
  q.sel = (if q.ctrl.getLsbD 6 then q.data.getLsbD 6 else true) ∧
  (q.sel = old.sel →
    q.stage = old.stage ∧ q.lastToggle = old.lastToggle ∧ q.armed = old.armed ∧ q.deadline = old.deadline ∧
    q.tmrGen = old.tmrGen ∧ q.gen = old.gen) ∧
  (q.sel ≠ old.sel →
    q.stage = (if old.stage = 4 then 1 else old.stage + 1) ∧ q.lastToggle = now ∧ q.armed = true ∧
    q.deadline = now + Config.timeout ∧ q.tmrGen = old.gen + 1 ∧ q.gen = old.gen + 1)

/-! ### The register operations by port -/

/-- P.RB.DATAp. -/
def rbData (p : PortId) : Instr :=
  match p with
  | 0 => .pRbData0
  | 1 => .pRbData1
  | 2 => .pRbData2

/-- P.WB.DATAp. -/
def wbData (p : PortId) (v : Byte) : Instr :=
  match p with
  | 0 => .pWbData0 v
  | 1 => .pWbData1 v
  | 2 => .pWbData2 v

/-- P.RW.DATAp. -/
def rwData (p : PortId) : Instr :=
  match p with
  | 0 => .pRwData0
  | 1 => .pRwData1
  | 2 => .pRwData2

/-- P.WW.DATAp. -/
def wwData (p : PortId) (v : Half) : Instr :=
  match p with
  | 0 => .pWwData0 v
  | 1 => .pWwData1 v
  | 2 => .pWwData2 v

/-- P.RB.DATAp.HI. -/
def rbDataHi (p : PortId) : Instr :=
  match p with
  | 0 => .pRbData0Hi
  | 1 => .pRbData1Hi
  | 2 => .pRbData2Hi

/-- P.WB.DATAp.HI. -/
def wbDataHi (p : PortId) (v : Byte) : Instr :=
  match p with
  | 0 => .pWbData0Hi v
  | 1 => .pWbData1Hi v
  | 2 => .pWbData2Hi v

/-- P.RB.CTRLp. -/
def rbCtrl (p : PortId) : Instr :=
  match p with
  | 0 => .pRbCtrl0
  | 1 => .pRbCtrl1
  | 2 => .pRbCtrl2

/-- P.WB.CTRLp. -/
def wbCtrl (p : PortId) (v : Byte) : Instr :=
  match p with
  | 0 => .pWbCtrl0 v
  | 1 => .pWbCtrl1 v
  | 2 => .pWbCtrl2 v

/-- P.RW.CTRLp. -/
def rwCtrl (p : PortId) : Instr :=
  match p with
  | 0 => .pRwCtrl0
  | 1 => .pRwCtrl1
  | 2 => .pRwCtrl2

/-- P.WW.CTRLp. -/
def wwCtrl (p : PortId) (v : Half) : Instr :=
  match p with
  | 0 => .pWwCtrl0 v
  | 1 => .pWwCtrl1 v
  | 2 => .pWwCtrl2 v

/-- P.RB.CTRLp.HI. -/
def rbCtrlHi (p : PortId) : Instr :=
  match p with
  | 0 => .pRbCtrl0Hi
  | 1 => .pRbCtrl1Hi
  | 2 => .pRbCtrl2Hi

/-- P.WB.CTRLp.HI. -/
def wbCtrlHi (p : PortId) (v : Byte) : Instr :=
  match p with
  | 0 => .pWbCtrl0Hi v
  | 1 => .pWbCtrl1Hi v
  | 2 => .pWbCtrl2Hi v

/-- P.RB.SERIALp. -/
def rbSerial (p : PortId) : Instr :=
  match p with
  | 0 => .pRbSerial0
  | 1 => .pRbSerial1
  | 2 => .pRbSerial2

/-- P.WB.SERIALp. -/
def wbSerial (p : PortId) (v : Byte) : Instr :=
  match p with
  | 0 => .pWbSerial0 v
  | 1 => .pWbSerial1 v
  | 2 => .pWbSerial2 v

/-- P.RW.SERIALp. -/
def rwSerial (p : PortId) : Instr :=
  match p with
  | 0 => .pRwSerial0
  | 1 => .pRwSerial1
  | 2 => .pRwSerial2

/-- P.WW.SERIALp. -/
def wwSerial (p : PortId) (v : Half) : Instr :=
  match p with
  | 0 => .pWwSerial0 v
  | 1 => .pWwSerial1 v
  | 2 => .pWwSerial2 v

/-- P.RB.SERIALp.HI. -/
def rbSerialHi (p : PortId) : Instr :=
  match p with
  | 0 => .pRbSerial0Hi
  | 1 => .pRbSerial1Hi
  | 2 => .pRbSerial2Hi

/-- P.WB.SERIALp.HI. -/
def wbSerialHi (p : PortId) (v : Byte) : Instr :=
  match p with
  | 0 => .pWbSerial0Hi v
  | 1 => .pWbSerial1Hi v
  | 2 => .pWbSerial2Hi v

/-- Transitions of port `p` in sequence: before each, time advances by the next gap; each writes the other level of
the select bit, the line being at `level`. -/
def toggleSequence (p : PortId) : Bool → List Nat → List Instr
  | _, [] => []
  | level, gap :: gaps =>
    .tAdv gap :: wbData p (if level then 0x00 else 0x40) :: toggleSequence p (!level) gaps

/-- Every instruction a program of `p`'s registers can use that may change port `p` (R104, R106, R108, R143). -/
def writesPort (p : PortId) : Instr → Bool
  | .pRbData0 => false
  | .pWbData0 _ => decide (p = 0)
  | .pRwData0 => false
  | .pWwData0 _ => decide (p = 0)
  | .pRbData0Hi => false
  | .pWbData0Hi _ => false
  | .pRbCtrl0 => false
  | .pWbCtrl0 _ => decide (p = 0)
  | .pRwCtrl0 => false
  | .pWwCtrl0 _ => decide (p = 0)
  | .pRbCtrl0Hi => false
  | .pWbCtrl0Hi _ => false
  | .pRbSerial0 => false
  | .pWbSerial0 _ => decide (p = 0)
  | .pRwSerial0 => false
  | .pWwSerial0 _ => decide (p = 0)
  | .pRbSerial0Hi => false
  | .pWbSerial0Hi _ => false
  | .pRbData1 => false
  | .pWbData1 _ => decide (p = 1)
  | .pRwData1 => false
  | .pWwData1 _ => decide (p = 1)
  | .pRbData1Hi => false
  | .pWbData1Hi _ => false
  | .pRbCtrl1 => false
  | .pWbCtrl1 _ => decide (p = 1)
  | .pRwCtrl1 => false
  | .pWwCtrl1 _ => decide (p = 1)
  | .pRbCtrl1Hi => false
  | .pWbCtrl1Hi _ => false
  | .pRbSerial1 => false
  | .pWbSerial1 _ => decide (p = 1)
  | .pRwSerial1 => false
  | .pWwSerial1 _ => decide (p = 1)
  | .pRbSerial1Hi => false
  | .pWbSerial1Hi _ => false
  | .pRbData2 => false
  | .pWbData2 _ => decide (p = 2)
  | .pRwData2 => false
  | .pWwData2 _ => decide (p = 2)
  | .pRbData2Hi => false
  | .pWbData2Hi _ => false
  | .pRbCtrl2 => false
  | .pWbCtrl2 _ => decide (p = 2)
  | .pRwCtrl2 => false
  | .pWwCtrl2 _ => decide (p = 2)
  | .pRbCtrl2Hi => false
  | .pWbCtrl2Hi _ => false
  | .pRbSerial2 => false
  | .pWbSerial2 _ => decide (p = 2)
  | .pRwSerial2 => false
  | .pWwSerial2 _ => decide (p = 2)
  | .pRbSerial2Hi => false
  | .pWbSerial2Hi _ => false
  | .pRbBusreq => false
  | .pWbBusreq _ => false
  | .pRwBusreq => false
  | .pWwBusreq _ => false
  | .pRbBusreqLo => false
  | .pWbBusreqLo _ => false
  | .pRbReset => false
  | .pWbReset _ => false
  | .pRwReset => false
  | .pWwReset _ => false
  | .pRbResetLo => false
  | .pWbResetLo _ => false
  | .pRbSram _ => false
  | .pWbSram _ _ => false
  | .pRwSram _ => false
  | .pWwSram _ _ => false
  | .pRbSnd _ => false
  | .pWbSnd _ _ => false
  | .pRwSnd _ => false
  | .pWwSnd _ _ => false
  | .sRbSram _ => false
  | .sWbSram _ _ => false
  | .sRbSnd _ => false
  | .sWbSnd _ _ => false
  | .sRbBank _ => false
  | .sWbBank _ _ => false
  | .sRbVdp _ => false
  | .sWbVdp _ _ => false
  | .sRbWin _ => false
  | .sWbWin _ _ => false
  | .sBegin => false
  | .sEnd => false
  | .arbAck => false
  | .tAdv _ => false
  | .tExpire q _ => decide (portOperand q = some p)
  | .hReset => false
  | .hPoweron => false
  | .iPadset _ _ => false
  | .hSave => false
  | .hRestore _ => false

/-- KIND of an instruction (R60): 0 the primary's accesses, 1 to 3 the secondary's accesses and boundaries, 4 the
arbiter, 5 and 6 the time base, 7, 8, 10, 11 the host, 9 the input collaborator. -/
def kindOf : Instr → Nat
  | .pRbData0 => 0
  | .pWbData0 _ => 0
  | .pRwData0 => 0
  | .pWwData0 _ => 0
  | .pRbData0Hi => 0
  | .pWbData0Hi _ => 0
  | .pRbCtrl0 => 0
  | .pWbCtrl0 _ => 0
  | .pRwCtrl0 => 0
  | .pWwCtrl0 _ => 0
  | .pRbCtrl0Hi => 0
  | .pWbCtrl0Hi _ => 0
  | .pRbSerial0 => 0
  | .pWbSerial0 _ => 0
  | .pRwSerial0 => 0
  | .pWwSerial0 _ => 0
  | .pRbSerial0Hi => 0
  | .pWbSerial0Hi _ => 0
  | .pRbData1 => 0
  | .pWbData1 _ => 0
  | .pRwData1 => 0
  | .pWwData1 _ => 0
  | .pRbData1Hi => 0
  | .pWbData1Hi _ => 0
  | .pRbCtrl1 => 0
  | .pWbCtrl1 _ => 0
  | .pRwCtrl1 => 0
  | .pWwCtrl1 _ => 0
  | .pRbCtrl1Hi => 0
  | .pWbCtrl1Hi _ => 0
  | .pRbSerial1 => 0
  | .pWbSerial1 _ => 0
  | .pRwSerial1 => 0
  | .pWwSerial1 _ => 0
  | .pRbSerial1Hi => 0
  | .pWbSerial1Hi _ => 0
  | .pRbData2 => 0
  | .pWbData2 _ => 0
  | .pRwData2 => 0
  | .pWwData2 _ => 0
  | .pRbData2Hi => 0
  | .pWbData2Hi _ => 0
  | .pRbCtrl2 => 0
  | .pWbCtrl2 _ => 0
  | .pRwCtrl2 => 0
  | .pWwCtrl2 _ => 0
  | .pRbCtrl2Hi => 0
  | .pWbCtrl2Hi _ => 0
  | .pRbSerial2 => 0
  | .pWbSerial2 _ => 0
  | .pRwSerial2 => 0
  | .pWwSerial2 _ => 0
  | .pRbSerial2Hi => 0
  | .pWbSerial2Hi _ => 0
  | .pRbBusreq => 0
  | .pWbBusreq _ => 0
  | .pRwBusreq => 0
  | .pWwBusreq _ => 0
  | .pRbBusreqLo => 0
  | .pWbBusreqLo _ => 0
  | .pRbReset => 0
  | .pWbReset _ => 0
  | .pRwReset => 0
  | .pWwReset _ => 0
  | .pRbResetLo => 0
  | .pWbResetLo _ => 0
  | .pRbSram _ => 0
  | .pWbSram _ _ => 0
  | .pRwSram _ => 0
  | .pWwSram _ _ => 0
  | .pRbSnd _ => 0
  | .pWbSnd _ _ => 0
  | .pRwSnd _ => 0
  | .pWwSnd _ _ => 0
  | .sRbSram _ => 1
  | .sWbSram _ _ => 1
  | .sRbSnd _ => 1
  | .sWbSnd _ _ => 1
  | .sRbBank _ => 1
  | .sWbBank _ _ => 1
  | .sRbVdp _ => 1
  | .sWbVdp _ _ => 1
  | .sRbWin _ => 1
  | .sWbWin _ _ => 1
  | .sBegin => 2
  | .sEnd => 3
  | .arbAck => 4
  | .tAdv _ => 5
  | .tExpire _ _ => 6
  | .hReset => 7
  | .hPoweron => 8
  | .iPadset _ _ => 9
  | .hSave => 10
  | .hRestore _ => 11

/-- Issued by the secondary processor: KIND 1, 2 or 3 (R60). -/
def isSecondary (i : Instr) : Bool := kindOf i == 1 || kindOf i == 2 || kindOf i == 3

end Sys2Proof.Machine
end

