-- ==== Sys2Proof/Certificates/Slice0/Obligations.lean ====
section
/-! DEFINITION. The statements for the provers, from the numbered rules of spec/. Wherever a statement names `result`,
`external`, `draws` or `schedule`, those are the model's own fields (log entries 2, 6, 9, 10); an existentially
quantified draw counter is left open, and a value that is said to be any value is not constrained. -/

open Sys2Proof Sys2Proof.Machine

/-- Decoding an encoded well-formed instruction gives it back (R61, R62, R63, 30_encoding.md section 1). -/
def Obligations.DecodeEncodeAgree : Prop :=
  ∀ i : Instr, i.wellFormed = true → decode (encode i) = .ok i

/-- The instruction a word decodes to is spelled by that word (R61, R63). -/
def Obligations.EncodeRestoresTheWord : Prop :=
  ∀ (q : Request) (i : Instr), decode q = .ok i → (encode i).word = q.word

/-- A word selects at most one row of the table; a selected row decodes, no row is refused (R63). -/
def Obligations.DecodeFollowsTheTable : Prop :=
  (∀ w : OpWord, (rows.filter (fun row => w &&& row.mask == row.pattern)).length ≤ 1) ∧
  (∀ (q : Request) (row : Row), row ∈ rows → q.word &&& row.mask = row.pattern →
    decode q = .ok (row.make q.word q.operands)) ∧
  (∀ q : Request, (∀ row ∈ rows, q.word &&& row.mask ≠ row.pattern) →
    (∃ e, decode q = .error e) ∧ ∀ s rest, s.schedule = q :: rest → ∃ r, step s = .refused r)

/-- A reserved KIND or a must-be-0 field that is not 0 is refused as Malformed (R61, R75, R222). -/
def Obligations.MalformedWordsAreRefused : Prop :=
  ∀ (s : State) (q : Request) (rest : List Request), s.schedule = q :: rest →
    (let w := q.word.toNat
     (w / 2 ^ 24 % 4 ≠ 0 ∨ (w / 2 ^ 28 = 1 ∧ w / 2 ^ 16 % 2 ^ 8 ≠ 0) ∨
      (2 ≤ w / 2 ^ 28 ∧ w / 2 ^ 28 < 12 ∧ w % 2 ^ 28 ≠ 0) ∨ 12 ≤ w / 2 ^ 28)) →
    step s = .refused (.malformed q.word)

/-- A primary word access at an odd address and a secondary word access are refused (R46, R222). -/
def Obligations.WrongWidthAndOddWordsAreRefused : Prop :=
  ∀ (s : State) (q : Request) (rest : List Request), s.schedule = q :: rest →
    (let w := q.word.toNat
     w / 2 ^ 24 % 4 = 0 → w / 2 ^ 26 % 2 = 1 →
     (w / 2 ^ 28 = 0 → w % 2 = 1 → ∃ a : PrimaryAddr, a.toNat = w % 2 ^ 24 ∧ step s = .refused (.misaligned a)) ∧
     (w / 2 ^ 28 = 1 → w / 2 ^ 16 % 2 ^ 8 = 0 → step s = .refused .wrongWidth))

/-- A primary access outside the block's windows or to an index not in block is refused (R41, R64, R222). -/
def Obligations.PrimaryAddressesOutsideTheBlockAreRefused : Prop :=
  ∀ (s : State) (q : Request) (rest : List Request), s.schedule = q :: rest →
    (let w := q.word.toNat
     let a := w % 2 ^ 24
     w / 2 ^ 28 = 0 → w / 2 ^ 24 % 4 = 0 → (w / 2 ^ 26 % 2 = 0 ∨ a % 2 = 0) →
     (¬ OwnWindow a ∨ (0xA10000 ≤ a ∧ a ≤ 0xA1001F ∧ IndexNotInBlock ((a - 0xA10000) / 2))) →
     ∃ addr : PrimaryAddr, addr.toNat = a ∧ step s = .refused (.notInBlock addr))

/-- A secondary access to 0x6100..0x7EFF or 0x7F20..0x7FFF is refused (R42, R222). -/
def Obligations.SecondaryHolesAreRefused : Prop :=
  ∀ (s : State) (q : Request) (rest : List Request), s.schedule = q :: rest →
    (let w := q.word.toNat
     let a := w % 2 ^ 16
     w / 2 ^ 28 = 1 → w / 2 ^ 16 % 2 ^ 11 = 0 →
     ((0x6100 ≤ a ∧ a ≤ 0x7EFF) ∨ (0x7F20 ≤ a ∧ a ≤ 0x7FFF)) →
     ∃ addr : PrimaryAddr, addr.toNat = a ∧ step s = .refused (.notInBlock addr))

/-- Operation words written out in the spec decode to the operations they stand for (95_test_vectors.md V-E1 to V-E5 and programs P2, P3, R61). -/
def Obligations.SampleWordsDecode : Prop :=
  decodeTableWord 32 0x00A10003 = some .pRbData0 ∧ decodeTableWord 32 0x0CA10008 = some (.pWwCtrl0 0) ∧
  decodeTableWord 32 0x08A10015 = some (.pWbSerial1 0) ∧ decodeTableWord 32 0x04A11100 = some .pRwBusreq ∧
  decodeTableWord 32 0x0CA11200 = some (.pWwReset 0) ∧ decodeTableWord 32 0x08A02001 = some (.pWbSram 0x2001 0) ∧
  decodeTableWord 32 0x00A04000 = some (.pRbSnd 0) ∧ decodeTableWord 32 0x18006000 = some (.sWbBank 0 0) ∧
  decodeTableWord 32 0x10008123 = some (.sRbWin 0x123) ∧ decodeTableWord 32 0x18007F04 = some (.sWbVdp 4 0) ∧
  decodeTableWord 32 0x20000000 = some .sBegin ∧ decodeTableWord 32 0x50000000 = some (.tAdv 0)

/-- The pseudo-operations are the operations R78 gives, and BUSREQ.WAIT repeats its poll until granted (R77, R78, R166, R170). -/
def Obligations.PseudoOperationsExpand : Prop :=
  (∀ p v, ExpandsTo (.th p v) [wbData p v]) ∧
  ExpandsTo .busreqOn [.pWwBusreq 0x0100] ∧ ExpandsTo .busreqOff [.pWwBusreq 0x0000] ∧
  ExpandsTo .secresetOn [.pWwReset 0x0000] ∧ ExpandsTo .secresetOff [.pWwReset 0x0100] ∧
  (∀ n : BitVec 9, ExpandsTo (.bankSet n) ((List.range 9).flatMap (fun k =>
    [.sBegin, .sWbBank 0 (if n.getLsbD k then 1 else 0), .sEnd]))) ∧
  (∀ (n : BitVec 9) (s : State) (groups : List (List TraceLine)), s.blk.isReset = false → s.blk.busReq = false →
    s.blk.secBusy = false → ∃ t, Pseudo.run (.bankSet n) groups s = .done t groups ∧ t.blk.bankSr = n) ∧
  (∃ poll, Pseudo.expand .busreqWait = .untilGranted poll ∧ decode poll.request = .ok .pRwBusreq ∧
    (∀ s, Pseudo.run .busreqWait [] s = .waiting s) ∧
    (∀ (group : List TraceLine) (groups : List (List TraceLine)) (s t : State), runLines group s = .next t →
      ∃ (u : State) (w : Half), runLine poll t = .next u ∧ u.blk = t.blk ∧ u.result = .word w ∧
        w.getLsbD 8 = !t.blk.busAck ∧
        Pseudo.run .busreqWait (group :: groups) s =
          if w.getLsbD 8 then Pseudo.run .busreqWait groups u else .done u groups)) ∧
  (∀ (groups left : List (List TraceLine)) (s t : State), Pseudo.run .busreqWait groups s = .done t left →
    ∃ w : Half, t.result = .word w ∧ w.getLsbD 8 = false)

/-- A step runs the instruction its next request decodes to (R1, R51, R63, R222). -/
def Obligations.StepRunsTheDecodedInstruction : Prop :=
  (∀ (s : State) (q : Request) (rest : List Request) (i : Instr), s.schedule = q :: rest → decode q = .ok i →
    step s = exec i { s with schedule := rest, result := .none }) ∧
  (∀ (s : State) (q : Request) (rest : List Request) (e : DecodeRefusal), s.schedule = q :: rest →
    decode q = .error e → step s = .refused (refusalOf e)) ∧
  (∀ s : State, s.schedule = [] → step s = .next s)

/-- Every step keeps the invariant of the block (R13, R14, R23, R24, R27, R142). -/
def Obligations.StepKeepsInv : Prop :=
  ∀ s t : State, s.Inv → step s = .next t → t.Inv

/-- The power-on state meets the invariants (R13, R27, R29, R142). -/
def Obligations.ResetMeetsInv : Prop :=
  State.reset.Inv ∧ State.reset.Timed

/-- A port past stage 0 keeps an armed timer whose deadline is its last transition plus T_TIMEOUT (R110, R144, R147). -/
def Obligations.HandshakeStaysTimed : Prop :=
  ∀ (i : Instr) (s t : State), (∀ r, i ≠ .hRestore r) → s.Timed → exec i s = .next t → t.Timed

/-- Once NOW is T_TIMEOUT or more after the last transition, the stage is 0 and the normal row shows (R147). -/
def Obligations.StageIsZeroAfterTheTimeout : Prop :=
  ∀ (s : State) (p : PortId), s.Inv → s.Timed → (getPort s.blk p).lastToggle + Config.timeout ≤ s.blk.now →
    (getPort s.blk p).stage = 0 ∧ ∀ k : Fin 8,
      pinLevel (Config.padKind p) (getPad s p) (getPort s.blk p) k =
        pinLevel .pad3 (getPad s p) (getPort s.blk p) k

/-- A data read returns, bit by bit, the latch where CTRL is 1 and the pad's pin where it is 0 (R65, R69, R101, R103, R112). -/
def Obligations.DataReadShowsLatchOrPin : Prop :=
  ∀ (s : State) (p : PortId),
    ∃ b : Byte, exec (rbData p) s = .next { s with result := .byte b } ∧
      (∃ (w : Half) (k : Nat), exec (rwData p) s = .next { s with result := .word w, draws := k } ∧
        w.extractLsb' 0 8 = b) ∧
      ∀ k : Fin 8, b.getLsbD k =
        if (getPort s.blk p).ctrl.getLsbD k then (getPort s.blk p).data.getLsbD k
        else pinLevel (Config.padKind p) (getPad s p) (getPort s.blk p) k

/-- Two data reads with the same port state and snapshot return the same byte (R116, R49). -/
def Obligations.DataReadDependsOnlyOnPortAndPad : Prop :=
  ∀ (s s' : State) (p : PortId), getPort s.blk p = getPort s'.blk p → getPad s p = getPad s' p →
    ∃ b : Byte, exec (rbData p) s = .next { s with result := .byte b } ∧
      exec (rbData p) s' = .next { s' with result := .byte b } ∧
      ∃ (w w' : Half) (k k' : Nat), exec (rwData p) s = .next { s with result := .word w, draws := k } ∧
        exec (rwData p) s' = .next { s' with result := .word w', draws := k' } ∧
        w.extractLsb' 0 8 = b ∧ w'.extractLsb' 0 8 = b

/-- A data write stores the byte; a changed line level is one transition, an unchanged one nothing more (R102, R104, R110, R111). -/
def Obligations.DataWriteStoresAndCountsTransitions : Prop :=
  ∀ (s : State) (p : PortId) (w : Half),
    ∃ q : Port, exec (wwData p w) s = .next { s with blk := setPort s.blk p q } ∧
      exec (wbData p (w.extractLsb' 0 8)) s = .next { s with blk := setPort s.blk p q } ∧
      q.data = w.extractLsb' 0 8 ∧ q.ctrl = (getPort s.blk p).ctrl ∧ q.serial = (getPort s.blk p).serial ∧
      HandshakeAfterWrite s.blk.now (getPort s.blk p) q

/-- A control write stores the byte; a direction change that moves the line is one transition (R102, R106). -/
def Obligations.CtrlWriteStoresAndCountsTransitions : Prop :=
  ∀ (s : State) (p : PortId) (w : Half),
    ∃ q : Port, exec (wwCtrl p w) s = .next { s with blk := setPort s.blk p q } ∧
      exec (wbCtrl p (w.extractLsb' 0 8)) s = .next { s with blk := setPort s.blk p q } ∧
      q.ctrl = w.extractLsb' 0 8 ∧ q.data = (getPort s.blk p).data ∧ q.serial = (getPort s.blk p).serial ∧
      HandshakeAfterWrite s.blk.now (getPort s.blk p) q

/-- Writing the same value again changes nothing (R14, R104, R106). -/
def Obligations.RepeatedWriteIsNoTransition : Prop :=
  ∀ (s t : State) (p : PortId) (v : Byte),
    (exec (wbData p v) s = .next t → exec (wbData p v) t = .next t) ∧
    (exec (wbCtrl p v) s = .next t → exec (wbCtrl p v) t = .next t)

/-- The control and serial registers read back; the serial register is plain storage (R105, R107, R108). -/
def Obligations.ControlAndSerialRegistersReadBack : Prop :=
  ∀ (s : State) (p : PortId) (w : Half),
    exec (wwSerial p w) s =
      .next { s with blk := setPort s.blk p { getPort s.blk p with serial := w.extractLsb' 0 8 } } ∧
    exec (wbSerial p (w.extractLsb' 0 8)) s =
      .next { s with blk := setPort s.blk p { getPort s.blk p with serial := w.extractLsb' 0 8 } } ∧
    exec (rbSerial p) s = .next { s with result := .byte (getPort s.blk p).serial } ∧
    exec (rbCtrl p) s = .next { s with result := .byte (getPort s.blk p).ctrl } ∧
    (∃ (r : Half) (k : Nat), exec (rwSerial p) s = .next { s with result := .word r, draws := k } ∧
      r.extractLsb' 0 8 = (getPort s.blk p).serial) ∧
    ∃ (r : Half) (k : Nat), exec (rwCtrl p) s = .next { s with result := .word r, draws := k } ∧
      r.extractLsb' 0 8 = (getPort s.blk p).ctrl

/-- A byte access to the even address of a port register reads any value and writes nothing (R109). -/
def Obligations.HighLaneAccessDoesNothing : Prop :=
  ∀ (s : State) (p : PortId) (v : Byte),
    (∀ i ∈ [rbDataHi p, rbCtrlHi p, rbSerialHi p],
      ∃ (b : Byte) (k : Nat), exec i s = .next { s with result := .byte b, draws := k }) ∧
    (∀ i ∈ [wbDataHi p v, wbCtrlHi p v, wbSerialHi p v], exec i s = .next s)

/-- With every gap below T_TIMEOUT, the k-th transition from stage 0 leaves stage ((k - 1) mod 4) + 1 (R148, R111, R141). -/
def Obligations.SixButtonSequenceHasPeriodFour : Prop :=
  ∀ (s : State) (p : PortId) (gaps : List Nat), s.Inv → (getPort s.blk p).ctrl.getLsbD 6 = true →
    (getPort s.blk p).stage = 0 → (∀ g ∈ gaps, g < Config.timeout) → gaps ≠ [] →
    ∃ t, execAll (toggleSequence p (getPort s.blk p).sel gaps) s = .next t ∧
      (getPort t.blk p).stage = (gaps.length - 1) % 4 + 1

/-- No operation changes a port it does not name (R149, R10). -/
def Obligations.PortsAreIndependent : Prop :=
  ∀ (i : Instr) (s t : State) (p : PortId), exec i s = .next t → writesPort p i = false →
    (∀ dt, i ≠ .tAdv dt) → i ≠ .hReset → i ≠ .hPoweron → (∀ r, i ≠ .hRestore r) →
    getPort t.blk p = getPort s.blk p

/-- No secondary operation reads or writes any port state (R118). -/
def Obligations.SecondaryNeverTouchesPorts : Prop :=
  ∀ (i : Instr) (s : State) (q0 q1 q2 : Port), isSecondary i = true →
    exec i (withPorts q0 q1 q2 s) = mapNext (withPorts q0 q1 q2) (exec i s)

/-- I.PADSET replaces one port's snapshot and nothing else; a port outside 0..2 is refused (R115). -/
def Obligations.PadSnapshotChange : Prop :=
  ∀ (s : State) (d : Pad) (n : Nat),
    (∀ p : PortId, n = p.val →
      ∃ t, exec (.iPadset n d) s = .next t ∧ getPad t p = d ∧ (∀ p', p' ≠ p → getPad t p' = getPad s p') ∧
        t.blk = s.blk ∧ t.result = s.result ∧ t.external = s.external ∧ t.draws = s.draws ∧
        t.schedule = s.schedule) ∧
    (3 ≤ n → exec (.iPadset n d) s = .refused (.badPort n))

/-- T.ADV moves NOW and fires exactly the due timers (R141, R144). -/
def Obligations.TimeAdvanceFiresDueTimers : Prop :=
  ∀ (s : State) (dt : Nat),
    ∃ b : Block, exec (.tAdv dt) s = .next { s with blk := b } ∧
      b = { s.blk with now := s.blk.now + dt, port0 := b.port0, port1 := b.port1, port2 := b.port2 } ∧
      ∀ p : PortId, getPort b p =
        if (getPort s.blk p).armed = true ∧ (getPort s.blk p).deadline ≤ s.blk.now + dt
        then { getPort s.blk p with stage := 0, armed := false } else getPort s.blk p

/-- T.EXPIRE expires a due timer of the delivered generation and is ignored otherwise (R143). -/
def Obligations.TimerCallback : Prop :=
  ∀ (s : State) (n g : Nat),
    (∀ p : PortId, n = p.val →
      ((getPort s.blk p).armed = true ∧ g = (getPort s.blk p).gen ∧ g = (getPort s.blk p).tmrGen ∧
        (getPort s.blk p).deadline ≤ s.blk.now →
        exec (.tExpire n g) s =
          .next { s with blk := setPort s.blk p { getPort s.blk p with stage := 0, armed := false } }) ∧
      (¬ ((getPort s.blk p).armed = true ∧ g = (getPort s.blk p).gen ∧ g = (getPort s.blk p).tmrGen ∧
        (getPort s.blk p).deadline ≤ s.blk.now) → exec (.tExpire n g) s = .next s)) ∧
    (3 ≤ n → exec (.tExpire n g) s = .refused (.badPort n))

/-- In a state that meets the invariant no callback and no zero advance changes anything (R142, R143, R141). -/
def Obligations.NoTimerIsLeftDue : Prop :=
  ∀ (s : State) (n g : Nat), s.Inv → n < 3 →
    exec (.tAdv 0) s = .next s ∧ exec (.tExpire n g) s = .next s

/-- S.BEGIN sets SEC_BUSY when the secondary may begin, and is held otherwise (R162, R223). -/
def Obligations.SecondaryBeginGuard : Prop :=
  ∀ s : State,
    (s.blk.isReset = false → s.blk.busReq = false → s.blk.secBusy = false →
      exec .sBegin s = .next { s with blk := { s.blk with secBusy := true } }) ∧
    ((s.blk.isReset = true ∨ s.blk.busReq = true ∨ s.blk.secBusy = true) → exec .sBegin s = .next s)

/-- S.END clears SEC_BUSY, and is refused with no instruction in flight (R163). -/
def Obligations.SecondaryEnd : Prop :=
  ∀ s : State,
    (s.blk.secBusy = true → exec .sEnd s = .next { s with blk := { s.blk with secBusy := false } }) ∧
    (s.blk.secBusy = false → exec .sEnd s = .refused .endWithoutBegin)

/-- ARB.ACK sets BUS_ACK when a grant is due, and is held otherwise (R165, R223). -/
def Obligations.GrantAcknowledgment : Prop :=
  ∀ s : State,
    (s.blk.busReq = true → s.blk.busAck = false → s.blk.secBusy = false →
      exec .arbAck s = .next { s with blk := { s.blk with busAck := true } }) ∧
    ((s.blk.busReq = false ∨ s.blk.busAck = true ∨ s.blk.secBusy = true) → exec .arbAck s = .next s)

/-- A bus-request write sets BUS_REQ to its bit; writing 0 also takes the grant away at once (R164). -/
def Obligations.BusRequestWrite : Prop :=
  ∀ (s : State) (v : Byte) (w : Half),
    (v.getLsbD 0 = true → exec (.pWbBusreq v) s = .next { s with blk := { s.blk with busReq := true } }) ∧
    (v.getLsbD 0 = false →
      exec (.pWbBusreq v) s = .next { s with blk := { s.blk with busReq := false, busAck := false } }) ∧
    (w.getLsbD 8 = true → exec (.pWwBusreq w) s = .next { s with blk := { s.blk with busReq := true } }) ∧
    (w.getLsbD 8 = false →
      exec (.pWwBusreq w) s = .next { s with blk := { s.blk with busReq := false, busAck := false } })

/-- The bus-status read shows BUS_ACK, never BUS_REQ: 0 is granted (R166). -/
def Obligations.BusGrantStatusShowsTheGrant : Prop :=
  ∀ s : State,
    (∃ (b : Byte) (k : Nat), exec .pRbBusreq s = .next { s with result := .byte b, draws := k } ∧
      b.getLsbD 0 = !s.blk.busAck) ∧
    (∃ (w : Half) (k : Nat), exec .pRwBusreq s = .next { s with result := .word w, draws := k } ∧
      w.getLsbD 8 = !s.blk.busAck)

/-- A reset-register write sets IS_RESET to the negation of its bit and changes nothing else (R168). -/
def Obligations.ResetWrite : Prop :=
  ∀ (s : State) (v : Byte) (w : Half),
    exec (.pWbReset v) s = .next { s with blk := { s.blk with isReset := !v.getLsbD 0 } } ∧
    exec (.pWwReset w) s = .next { s with blk := { s.blk with isReset := !w.getLsbD 8 } }

/-- Reset-register reads and odd-lane accesses read any value and change nothing (R167, R172). -/
def Obligations.ControlReadsOfAnyValue : Prop :=
  ∀ (s : State) (v : Byte),
    (∀ i ∈ [Instr.pRbReset, .pRbBusreqLo, .pRbResetLo],
      ∃ (b : Byte) (k : Nat), exec i s = .next { s with result := .byte b, draws := k } ∧
        ∀ r : Bool, exec i (withIsReset r s) = .next (withIsReset r { s with result := .byte b, draws := k })) ∧
    (∃ (w : Half) (k : Nat), exec .pRwReset s = .next { s with result := .word w, draws := k } ∧
      ∀ r : Bool, exec .pRwReset (withIsReset r s) =
        .next (withIsReset r { s with result := .word w, draws := k })) ∧
    (∀ i ∈ [Instr.pWbBusreqLo v, .pWbResetLo v], exec i s = .next s)

/-- No primary access but a reset write reads or writes IS_RESET (R167, R191, 90_conflicts.md C1). -/
def Obligations.PrimaryIsBlindToIsReset : Prop :=
  ∀ (i : Instr) (s : State) (r : Bool), kindOf i = 0 → (∀ v, i ≠ .pWbReset v) → (∀ w, i ≠ .pWwReset w) →
    exec i (withIsReset r s) = mapNext (withIsReset r) (exec i s)

/-- An instruction comes into flight only by S.BEGIN while free, a grant only by ARB.ACK when due (R20, R161, R162, R165, R263). -/
def Obligations.ArbiterBitsRiseOnlyUnderTheirGuards : Prop :=
  ∀ (i : Instr) (s t : State), exec i s = .next t →
    (s.blk.secBusy = false → t.blk.secBusy = true →
      (i = .sBegin ∧ s.blk.isReset = false ∧ s.blk.busReq = false) ∨ ∃ r, i = .hRestore r ∧ r.secBusy = true) ∧
    (s.blk.busAck = false → t.blk.busAck = true →
      (i = .arbAck ∧ s.blk.busReq = true ∧ s.blk.secBusy = false) ∨ ∃ r, i = .hRestore r ∧ r.busAck = true)

/-- A request made in mid-instruction reads not granted until the instruction ends and is acknowledged (R163, R165, R166, 95_test_vectors.md P4). -/
def Obligations.GrantWaitsForTheInstruction : Prop :=
  ∀ s : State, s.blk.secBusy = true → s.blk.busAck = false →
    ∃ (s1 s2 s3 s4 s5 : State) (w w' : Half),
      exec (.pWwBusreq 0x0100) s = .next s1 ∧ exec .arbAck s1 = .next s1 ∧
      exec .pRwBusreq s1 = .next s2 ∧ s2.result = .word w ∧ w.getLsbD 8 = true ∧
      exec .sEnd s2 = .next s3 ∧ exec .sBegin s3 = .next s3 ∧ exec .arbAck s3 = .next s4 ∧
      exec .pRwBusreq s4 = .next s5 ∧ s5.result = .word w' ∧ w'.getLsbD 8 = false

/-- A bank-shift write shifts bit 0 in at the top; nine writes set the register least significant first (R170). -/
def Obligations.BankShift : Prop :=
  (∀ (s : State) (a : BitVec 8) (v : Byte), s.blk.secBusy = true →
    ∃ (sr : BitVec 9) (base : BitVec 24),
      exec (.sWbBank a v) s = .next { s with blk := { s.blk with
        bankSr := sr, bankBase := base, bankCount := min (s.blk.bankCount + 1) 9 } } ∧
      (∀ k : Fin 9, sr.getLsbD k = if k.val = 8 then v.getLsbD 0 else s.blk.bankSr.getLsbD (k.val + 1)) ∧
      base.toNat = sr.toNat * 0x8000) ∧
  (∀ (s : State) (a : BitVec 8) (v : Byte), s.blk.secBusy = false →
    exec (.sWbBank a v) s = .refused .accessOutsideInstruction) ∧
  (∀ (s : State) (a : Fin 9 → BitVec 8) (v : Fin 9 → Byte), s.blk.secBusy = true →
    ∃ (sr : BitVec 9) (base : BitVec 24),
      execAll ((List.finRange 9).map (fun k => .sWbBank (a k) (v k))) s = .next { s with blk := { s.blk with
        bankSr := sr, bankBase := base, bankCount := 9 } } ∧
      (∀ k : Fin 9, sr.getLsbD k = (v k).getLsbD 0) ∧ base.toNat = sr.toNat * 0x8000)

/-- A bank-register read returns any value and shifts nothing (R171). -/
def Obligations.BankRead : Prop :=
  ∀ (s : State) (a : BitVec 8),
    (s.blk.secBusy = true →
      ∃ (b : Byte) (k : Nat), exec (.sRbBank a) s = .next { s with result := .byte b, draws := k }) ∧
    (s.blk.secBusy = false → exec (.sRbBank a) s = .refused .accessOutsideInstruction)

/-- Only a secondary bank-shift write, power-on and restore change the bank register (R22, R23, R175). -/
def Obligations.BankChangesOnlyByShift : Prop :=
  ∀ (i : Instr) (s t : State), exec i s = .next t →
    (∃ a v, i = .sWbBank a v) ∨ i = .hPoweron ∨ (∃ r, i = .hRestore r) ∨
    (t.blk.bankSr = s.blk.bankSr ∧ t.blk.bankCount = s.blk.bankCount ∧ t.blk.bankBase = s.blk.bankBase)

/-- NOW moves only by T.ADV, power-on and restore (R17, R250, R263). -/
def Obligations.NowMovesOnlyByAdvance : Prop :=
  ∀ (i : Instr) (s t : State), exec i s = .next t →
    i = .hPoweron ∨ (∃ r, i = .hRestore r) ∨ (∃ dt, i = .tAdv dt ∧ t.blk.now = s.blk.now + dt) ∨
    t.blk.now = s.blk.now

/-- Every secondary access is refused with no instruction in flight, and applied only with one (R202). -/
def Obligations.SecondaryAccessNeedsAnInstruction : Prop :=
  ∀ (i : Instr) (s : State), kindOf i = 1 →
    (s.blk.secBusy = false → exec i s = .refused .accessOutsideInstruction) ∧
    (s.blk.secBusy = true → exec i s ≠ .refused .accessOutsideInstruction)

/-- A primary SharedRAM read returns the byte at a mod 0x2000, always (R190). -/
def Obligations.PrimarySramRead : Prop :=
  ∀ (s : State) (off : BitVec 14),
    exec (.pRbSram off) s = .next { s with result := .byte (sramRead s.blk (off.toNat % 0x2000)) } ∧
    (off.toNat % 2 = 0 → ∃ w : Half, exec (.pRwSram off) s = .next { s with result := .word w } ∧
      w.extractLsb' 0 8 = sramRead s.blk (off.toNat % 0x2000) ∧
      w.extractLsb' 8 8 = sramRead s.blk (off.toNat % 0x2000))

/-- A primary SharedRAM write lands only with the grant, on one byte (R191). -/
def Obligations.PrimarySramWrite : Prop :=
  ∀ (s : State) (off : BitVec 14) (w : Half),
    (s.blk.busAck = true → ∃ m : Memory,
      exec (.pWbSram off (w.extractLsb' 8 8)) s = .next { s with blk := { s.blk with sram := m } } ∧
      (off.toNat % 2 = 0 → exec (.pWwSram off w) s = .next { s with blk := { s.blk with sram := m } }) ∧
      ∀ i : Nat, sramRead { s.blk with sram := m } i =
        if i = off.toNat % 0x2000 then w.extractLsb' 8 8 else sramRead s.blk i) ∧
    (s.blk.busAck = false → exec (.pWbSram off (w.extractLsb' 8 8)) s = .next s ∧
      (off.toNat % 2 = 0 → exec (.pWwSram off w) s = .next s))

/-- A primary sound read reaches the device only with the grant; else it returns all ones (R192). -/
def Obligations.PrimarySoundRead : Prop :=
  ∀ (s : State) (off : BitVec 13),
    (s.blk.busAck = true → ∃ (b : Byte) (reg : BitVec 2) (k : Nat), reg.toNat = off.toNat % 4 ∧
      exec (.pRbSnd off) s =
        .next { s with result := .byte b, external := s.external ++ [.soundRead reg b], draws := k } ∧
      (off.toNat % 2 = 0 → ∃ (b' : Byte) (w : Half) (k' : Nat),
        exec (.pRwSnd off) s =
          .next { s with result := .word w, external := s.external ++ [.soundRead reg b'], draws := k' } ∧
        w.extractLsb' 0 8 = b' ∧ w.extractLsb' 8 8 = b')) ∧
    (s.blk.busAck = false → exec (.pRbSnd off) s = .next { s with result := .byte 0xFF } ∧
      (off.toNat % 2 = 0 → exec (.pRwSnd off) s = .next { s with result := .word 0xFFFF }))

/-- A primary sound write reaches the device only with the grant (R193). -/
def Obligations.PrimarySoundWrite : Prop :=
  ∀ (s : State) (off : BitVec 13) (v : Byte) (w : Half),
    (s.blk.busAck = true → ∃ reg : BitVec 2, reg.toNat = off.toNat % 4 ∧
      exec (.pWbSnd off v) s = .next { s with external := s.external ++ [.soundWrite reg v] } ∧
      (off.toNat % 2 = 0 → exec (.pWwSnd off w) s =
        .next { s with external := s.external ++ [.soundWrite reg (w.extractLsb' 8 8)] })) ∧
    (s.blk.busAck = false → exec (.pWbSnd off v) s = .next s ∧
      (off.toNat % 2 = 0 → exec (.pWwSnd off w) s = .next s))

/-- The secondary reads and writes SharedRAM at a mod 0x2000 inside an instruction (R194, R195). -/
def Obligations.SecondarySram : Prop :=
  ∀ (s : State) (off : BitVec 14) (v : Byte),
    (s.blk.secBusy = true →
      exec (.sRbSram off) s = .next { s with result := .byte (sramRead s.blk (off.toNat % 0x2000)) } ∧
      ∃ m : Memory, exec (.sWbSram off v) s = .next { s with blk := { s.blk with sram := m } } ∧
        ∀ i : Nat, sramRead { s.blk with sram := m } i =
          if i = off.toNat % 0x2000 then v else sramRead s.blk i) ∧
    (s.blk.secBusy = false → exec (.sRbSram off) s = .refused .accessOutsideInstruction ∧
      exec (.sWbSram off v) s = .refused .accessOutsideInstruction)

/-- The secondary reaches the sound device inside an instruction, whatever the grant (R200, R201). -/
def Obligations.SecondarySound : Prop :=
  ∀ (s : State) (off : BitVec 13) (v : Byte),
    (s.blk.secBusy = true → ∃ (b : Byte) (reg : BitVec 2) (k : Nat), reg.toNat = off.toNat % 4 ∧
      exec (.sRbSnd off) s =
        .next { s with result := .byte b, external := s.external ++ [.soundRead reg b], draws := k } ∧
      exec (.sWbSnd off v) s = .next { s with external := s.external ++ [.soundWrite reg v] }) ∧
    (s.blk.secBusy = false → exec (.sRbSnd off) s = .refused .accessOutsideInstruction ∧
      exec (.sWbSnd off v) s = .refused .accessOutsideInstruction)

/-- The VDP relay reads the big-endian lane of the 16-bit port and writes the byte to both lanes (R198, R199). -/
def Obligations.VdpRelay : Prop :=
  ∀ (s : State) (off : BitVec 5) (v : Byte),
    (s.blk.secBusy = true → ∃ (w w' : Half) (port : BitVec 5) (k : Nat), port.toNat = off.toNat / 2 * 2 ∧
      exec (.sRbVdp off) s = .next { s with
        result := .byte (if off.toNat % 2 = 0 then w.extractLsb' 8 8 else w.extractLsb' 0 8)
        external := s.external ++ [.vdpRead port w], draws := k } ∧
      exec (.sWbVdp off v) s = .next { s with external := s.external ++ [.vdpWrite port w'] } ∧
      w'.extractLsb' 8 8 = v ∧ w'.extractLsb' 0 8 = v) ∧
    (s.blk.secBusy = false → exec (.sRbVdp off) s = .refused .accessOutsideInstruction ∧
      exec (.sWbVdp off v) s = .refused .accessOutsideInstruction)

/-- A bank-window access reaches primary memory at BANK_BASE + (a mod 0x8000), or is refused in the block's own windows (R196, R197). -/
def Obligations.BankWindow : Prop :=
  ∀ (s : State) (off : BitVec 15) (v : Byte),
    (s.blk.secBusy = true → ∃ ea : PrimaryAddr, ea.toNat = (s.blk.bankBase.toNat + off.toNat) % 2 ^ 24 ∧
      (OwnWindow ea.toNat → exec (.sRbWin off) s = .refused (.windowIntoSelf ea) ∧
        exec (.sWbWin off v) s = .refused (.windowIntoSelf ea)) ∧
      (¬ OwnWindow ea.toNat → ∃ (b : Byte) (k : Nat),
        exec (.sRbWin off) s =
          .next { s with result := .byte b, external := s.external ++ [.primaryRead ea b], draws := k } ∧
        exec (.sWbWin off v) s = .next { s with external := s.external ++ [.primaryWrite ea v] })) ∧
    (s.blk.secBusy = false → exec (.sRbWin off) s = .refused .accessOutsideInstruction ∧
      exec (.sWbWin off v) s = .refused .accessOutsideInstruction)

/-- The window address never carries out of 24 bits: it is the nine bank bits above the offset (R43, R24). -/
def Obligations.WindowAddressNeverCarries : Prop :=
  ∀ (s : State) (off : BitVec 15), s.Inv →
    (windowEA s.blk.bankBase off).toNat = s.blk.bankBase.toNat + off.toNat ∧
    (windowEA s.blk.bankBase off).toNat = s.blk.bankSr.toNat * 0x8000 + off.toNat

/-- SharedRAM changes only by a granted primary write or a secondary write inside an instruction (R25, R204, R250, R263). -/
def Obligations.SharedRamWriters : Prop :=
  ∀ (i : Instr) (s t : State), exec i s = .next t →
    ((t.blk.sram = s.blk.sram ∧ t.blk.sramSeed = s.blk.sramSeed) ∨
      (((∃ off v, i = .pWbSram off v) ∨ (∃ off w, i = .pWwSram off w)) ∧ s.blk.busAck = true) ∨
      ((∃ off v, i = .sWbSram off v) ∧ s.blk.secBusy = true) ∨ i = .hPoweron ∨ (∃ r, i = .hRestore r)) ∧
    (s.Inv → ¬ (s.blk.busAck = true ∧ s.blk.secBusy = true))

/-- An operation makes at most one device access, a primary one none without the grant (R203, R50, R192, R193). -/
def Obligations.PrimaryDeviceAccessNeedsTheGrant : Prop :=
  ∀ (i : Instr) (s t : State), exec i s = .next t →
    ∃ l : List ExtAccess, t.external = s.external ++ l ∧ l.length ≤ 1 ∧
      (kindOf i = 0 → s.blk.busAck = false → l = []) ∧ s.draws ≤ t.draws

/-- A byte the primary loads under the grant is what the secondary fetches after its release (a held ARB.ACK is passed over, log entry 4) (R253, R54, R191, R194, R223). -/
def Obligations.BootLoadsTheSecondary : Prop :=
  ∀ (s : State) (off off' : BitVec 14) (v : Byte), s.blk.secBusy = false →
    off.toNat % 0x2000 = off'.toNat % 0x2000 →
    ∃ t, execAll [.pWwBusreq 0x0100, .arbAck, .pWbSram off v, .pWwReset 0x0100, .pWwBusreq 0x0000, .sBegin,
        .sRbSram off'] s = .next t ∧ t.result = .byte v

/-- H.POWERON gives every state its power-on value and every SharedRAM byte a fresh draw (R29, R250). -/
def Obligations.PowerOnValues : Prop :=
  ∀ s : State, ∃ b : Block, exec .hPoweron s = .next { s with blk := b, draws := s.draws + 1 } ∧
    (∀ p : PortId, getPort b p = clearedPort 0) ∧
    b.now = 0 ∧ b.isReset = true ∧ b.busReq = false ∧ b.busAck = false ∧ b.secBusy = false ∧
    b.bankSr = 0 ∧ b.bankCount = 0 ∧ b.bankBase = 0 ∧
    ∀ i : Nat, i < 0x2000 → sramRead b i = Config.sramPowerOn s.draws i

/-- The reset state holds the power-on values of R29 (R29, R250, R265). -/
def Obligations.ResetStateValues : Prop :=
  (∀ p : PortId, getPort State.reset.blk p = clearedPort 0) ∧
  State.reset.blk.now = 0 ∧ State.reset.blk.isReset = true ∧ State.reset.blk.busReq = false ∧
  State.reset.blk.busAck = false ∧ State.reset.blk.secBusy = false ∧ State.reset.blk.bankSr = 0 ∧
  State.reset.blk.bankCount = 0 ∧ State.reset.blk.bankBase = 0

/-- H.RESET zeroes the ports, cancels their timers and resets the arbiter; bank, NOW, SharedRAM and pads stay (R251). -/
def Obligations.HardwareReset : Prop :=
  ∀ s : State, ∃ b : Block, exec .hReset s = .next { s with blk := b } ∧
    b = { s.blk with
          port0 := b.port0, port1 := b.port1, port2 := b.port2
          isReset := true, busReq := false, busAck := false, secBusy := false } ∧
    ∀ p : PortId, getPort b p = clearedPort ((getPort s.blk p).gen + 1)

/-- H.SAVE returns every persisted field; H.RESTORE puts a consistent record back and refuses any other (R262, R263). -/
def Obligations.SaveAndRestore : Prop :=
  (∀ s : State, exec .hSave s = .next { s with result := .saved s.blk }) ∧
  (∀ (s : State) (r : Block), (BlockInv r → exec (.hRestore r) s = .next { s with blk := r }) ∧
    (¬ BlockInv r → exec (.hRestore r) s = .refused .inconsistentRestore)) ∧
  (∀ s t : State, s.Inv → exec .hSave s = .next t → ∃ r, t.result = .saved r ∧ exec (.hRestore r) t = .next t)

/-- The outputs are functions of the state, SEC_MAY_BEGIN is when S.BEGIN acts, and the VDP's lines pass through (R28, R226, R162). -/
def Obligations.OutputsFollowTheState : Prop :=
  ∀ (s : State) (pri sec : Bool),
    (outputs s pri sec).priIrq = pri ∧ (outputs s pri sec).secIrq = sec ∧
    (outputs s pri sec).secResetAsserted = s.blk.isReset ∧
    (outputs s pri sec).thOut0 = (getPort s.blk 0).sel ∧ (outputs s pri sec).thOut1 = (getPort s.blk 1).sel ∧
    (outputs s pri sec).thOut2 = (getPort s.blk 2).sel ∧
    ((outputs s pri sec).secMayBegin = true ↔ ∃ t, exec .sBegin s = .next t ∧ t ≠ s)
end

