-- ==== Sys2Proof/Laws/Decode.lean ====
section
/-! SUPPORT. The opcode table: its rows exclude each other. -/

namespace Sys2Proof

/-- Any two rows differ in a bit that both fix, so no word selects both (R63). -/
theorem rows_disjoint :
    rows.Pairwise (fun a b => (a.pattern ^^^ b.pattern) &&& (a.mask &&& b.mask) ≠ 0) := by
  decide +kernel

/-- A word that selects a row agrees with its pattern on every bit the row fixes. -/
theorem Row.selects_iff (row : Row) (w : OpWord) : row.selects w = true ↔ w &&& row.mask = row.pattern := by
  simp [Row.selects]

/-- A word whose row is found decodes to what the row makes of it and of the operands beside it (R63). -/
theorem decode_of_find {w : OpWord} {row : Row} (h : rows.find? (fun row => row.selects w) = some row)
    (o : Operands) : decode ⟨w, o⟩ = .ok (row.make w o) := by
  simp [decode, h]

end Sys2Proof
end

