-- ==== Sys2Proof/Laws/State.lean ====
section
/-! SUPPORT. One lemma per field per update of the state and of the block, true by definition, so that no proof
unfolds a record update. -/

namespace Sys2Proof.Machine

@[simp] theorem setBlk_blk (b : Block) (s : State) : (setBlk b s).blk = b := rfl
@[simp] theorem setBlk_pad0 (b : Block) (s : State) : (setBlk b s).pad0 = s.pad0 := rfl
@[simp] theorem setBlk_pad1 (b : Block) (s : State) : (setBlk b s).pad1 = s.pad1 := rfl
@[simp] theorem setBlk_pad2 (b : Block) (s : State) : (setBlk b s).pad2 = s.pad2 := rfl
@[simp] theorem setBlk_result (b : Block) (s : State) : (setBlk b s).result = s.result := rfl
@[simp] theorem setBlk_external (b : Block) (s : State) : (setBlk b s).external = s.external := rfl
@[simp] theorem setBlk_draws (b : Block) (s : State) : (setBlk b s).draws = s.draws := rfl
@[simp] theorem setBlk_schedule (b : Block) (s : State) : (setBlk b s).schedule = s.schedule := rfl

@[simp] theorem setResult_blk (r : Result) (s : State) : (setResult r s).blk = s.blk := rfl
@[simp] theorem setResult_pad0 (r : Result) (s : State) : (setResult r s).pad0 = s.pad0 := rfl
@[simp] theorem setResult_pad1 (r : Result) (s : State) : (setResult r s).pad1 = s.pad1 := rfl
@[simp] theorem setResult_pad2 (r : Result) (s : State) : (setResult r s).pad2 = s.pad2 := rfl
@[simp] theorem setResult_result (r : Result) (s : State) : (setResult r s).result = r := rfl
@[simp] theorem setResult_external (r : Result) (s : State) : (setResult r s).external = s.external := rfl
@[simp] theorem setResult_draws (r : Result) (s : State) : (setResult r s).draws = s.draws := rfl
@[simp] theorem setResult_schedule (r : Result) (s : State) : (setResult r s).schedule = s.schedule := rfl

@[simp] theorem tickDraws_blk (s : State) : (tickDraws s).blk = s.blk := rfl
@[simp] theorem tickDraws_pad0 (s : State) : (tickDraws s).pad0 = s.pad0 := rfl
@[simp] theorem tickDraws_pad1 (s : State) : (tickDraws s).pad1 = s.pad1 := rfl
@[simp] theorem tickDraws_pad2 (s : State) : (tickDraws s).pad2 = s.pad2 := rfl
@[simp] theorem tickDraws_result (s : State) : (tickDraws s).result = s.result := rfl
@[simp] theorem tickDraws_external (s : State) : (tickDraws s).external = s.external := rfl
@[simp] theorem tickDraws_draws (s : State) : (tickDraws s).draws = s.draws + 1 := rfl
@[simp] theorem tickDraws_schedule (s : State) : (tickDraws s).schedule = s.schedule := rfl

@[simp] theorem logAccess_blk (e : ExtAccess) (s : State) : (logAccess e s).blk = s.blk := rfl
@[simp] theorem logAccess_pad0 (e : ExtAccess) (s : State) : (logAccess e s).pad0 = s.pad0 := rfl
@[simp] theorem logAccess_pad1 (e : ExtAccess) (s : State) : (logAccess e s).pad1 = s.pad1 := rfl
@[simp] theorem logAccess_pad2 (e : ExtAccess) (s : State) : (logAccess e s).pad2 = s.pad2 := rfl
@[simp] theorem logAccess_result (e : ExtAccess) (s : State) : (logAccess e s).result = s.result := rfl
@[simp] theorem logAccess_external (e : ExtAccess) (s : State) : (logAccess e s).external = s.external ++ [e] := rfl
@[simp] theorem logAccess_draws (e : ExtAccess) (s : State) : (logAccess e s).draws = s.draws := rfl
@[simp] theorem logAccess_schedule (e : ExtAccess) (s : State) : (logAccess e s).schedule = s.schedule := rfl

@[simp] theorem beginOperation_blk (rest : List Request) (s : State) : (beginOperation rest s).blk = s.blk := rfl
@[simp] theorem beginOperation_pad0 (rest : List Request) (s : State) : (beginOperation rest s).pad0 = s.pad0 := rfl
@[simp] theorem beginOperation_pad1 (rest : List Request) (s : State) : (beginOperation rest s).pad1 = s.pad1 := rfl
@[simp] theorem beginOperation_pad2 (rest : List Request) (s : State) : (beginOperation rest s).pad2 = s.pad2 := rfl
@[simp] theorem beginOperation_result (rest : List Request) (s : State) : (beginOperation rest s).result = .none := rfl
@[simp] theorem beginOperation_external (rest : List Request) (s : State) : (beginOperation rest s).external = s.external := rfl
@[simp] theorem beginOperation_draws (rest : List Request) (s : State) : (beginOperation rest s).draws = s.draws := rfl
@[simp] theorem beginOperation_schedule (rest : List Request) (s : State) : (beginOperation rest s).schedule = rest := rfl

@[simp] theorem setPad_blk (p : PortId) (d : Pad) (s : State) : (setPad p d s).blk = s.blk := by
  fin_cases p <;> rfl
@[simp] theorem setPad_result (p : PortId) (d : Pad) (s : State) : (setPad p d s).result = s.result := by
  fin_cases p <;> rfl
@[simp] theorem setPad_external (p : PortId) (d : Pad) (s : State) : (setPad p d s).external = s.external := by
  fin_cases p <;> rfl
@[simp] theorem setPad_draws (p : PortId) (d : Pad) (s : State) : (setPad p d s).draws = s.draws := by
  fin_cases p <;> rfl
@[simp] theorem setPad_schedule (p : PortId) (d : Pad) (s : State) : (setPad p d s).schedule = s.schedule := by
  fin_cases p <;> rfl

@[simp] theorem setPort_now (b : Block) (p : PortId) (q : Port) : (setPort b p q).now = b.now := by
  fin_cases p <;> rfl
@[simp] theorem setPort_isReset (b : Block) (p : PortId) (q : Port) : (setPort b p q).isReset = b.isReset := by
  fin_cases p <;> rfl
@[simp] theorem setPort_busReq (b : Block) (p : PortId) (q : Port) : (setPort b p q).busReq = b.busReq := by
  fin_cases p <;> rfl
@[simp] theorem setPort_busAck (b : Block) (p : PortId) (q : Port) : (setPort b p q).busAck = b.busAck := by
  fin_cases p <;> rfl
@[simp] theorem setPort_secBusy (b : Block) (p : PortId) (q : Port) : (setPort b p q).secBusy = b.secBusy := by
  fin_cases p <;> rfl
@[simp] theorem setPort_bankSr (b : Block) (p : PortId) (q : Port) : (setPort b p q).bankSr = b.bankSr := by
  fin_cases p <;> rfl
@[simp] theorem setPort_bankCount (b : Block) (p : PortId) (q : Port) : (setPort b p q).bankCount = b.bankCount := by
  fin_cases p <;> rfl
@[simp] theorem setPort_bankBase (b : Block) (p : PortId) (q : Port) : (setPort b p q).bankBase = b.bankBase := by
  fin_cases p <;> rfl
@[simp] theorem setPort_sram (b : Block) (p : PortId) (q : Port) : (setPort b p q).sram = b.sram := by
  fin_cases p <;> rfl
@[simp] theorem setPort_sramSeed (b : Block) (p : PortId) (q : Port) : (setPort b p q).sramSeed = b.sramSeed := by
  fin_cases p <;> rfl

@[simp] theorem mapPorts_now (f : Port → Port) (b : Block) : (mapPorts f b).now = b.now := rfl
@[simp] theorem mapPorts_isReset (f : Port → Port) (b : Block) : (mapPorts f b).isReset = b.isReset := rfl
@[simp] theorem mapPorts_busReq (f : Port → Port) (b : Block) : (mapPorts f b).busReq = b.busReq := rfl
@[simp] theorem mapPorts_busAck (f : Port → Port) (b : Block) : (mapPorts f b).busAck = b.busAck := rfl
@[simp] theorem mapPorts_secBusy (f : Port → Port) (b : Block) : (mapPorts f b).secBusy = b.secBusy := rfl
@[simp] theorem mapPorts_bankSr (f : Port → Port) (b : Block) : (mapPorts f b).bankSr = b.bankSr := rfl
@[simp] theorem mapPorts_bankCount (f : Port → Port) (b : Block) : (mapPorts f b).bankCount = b.bankCount := rfl
@[simp] theorem mapPorts_bankBase (f : Port → Port) (b : Block) : (mapPorts f b).bankBase = b.bankBase := rfl
@[simp] theorem mapPorts_sram (f : Port → Port) (b : Block) : (mapPorts f b).sram = b.sram := rfl
@[simp] theorem mapPorts_sramSeed (f : Port → Port) (b : Block) : (mapPorts f b).sramSeed = b.sramSeed := rfl

/-- Reading the port just set. -/
@[simp] theorem getPort_setPort_self (b : Block) (p : PortId) (q : Port) : getPort (setPort b p q) p = q := by
  fin_cases p <;> rfl

/-- Setting a port leaves the others. -/
theorem getPort_setPort_ne {p p' : PortId} (h : p' ≠ p) (b : Block) (q : Port) :
    getPort (setPort b p q) p' = getPort b p' := by
  fin_cases p <;> fin_cases p' <;> first | rfl | exact absurd rfl h

/-- Setting a port to what it holds changes nothing. -/
@[simp] theorem setPort_getPort (b : Block) (p : PortId) : setPort b p (getPort b p) = b := by
  fin_cases p <;> rfl

@[simp] theorem getPort_mapPorts (f : Port → Port) (b : Block) (p : PortId) :
    getPort (mapPorts f b) p = f (getPort b p) := by
  fin_cases p <;> rfl

@[simp] theorem getPad_setPad_self (p : PortId) (d : Pad) (s : State) : getPad (setPad p d s) p = d := by
  fin_cases p <;> rfl

theorem getPad_setPad_ne {p p' : PortId} (h : p' ≠ p) (d : Pad) (s : State) :
    getPad (setPad p d s) p' = getPad s p' := by
  fin_cases p <;> fin_cases p' <;> first | rfl | exact absurd rfl h

/-- A property of every port is a property of the three. -/
theorem forall_port {P : Port → Prop} (b : Block) :
    (∀ p, P (getPort b p)) ↔ P b.port0 ∧ P b.port1 ∧ P b.port2 :=
  ⟨fun h => ⟨h 0, h 1, h 2⟩, fun ⟨h0, h1, h2⟩ p => by fin_cases p <;> assumption⟩

@[simp] theorem sramWrite_port0 (i : Nat) (v : Byte) (b : Block) :
    (sramWrite i v b).port0 = b.port0 := rfl
@[simp] theorem sramWrite_port1 (i : Nat) (v : Byte) (b : Block) :
    (sramWrite i v b).port1 = b.port1 := rfl
@[simp] theorem sramWrite_port2 (i : Nat) (v : Byte) (b : Block) :
    (sramWrite i v b).port2 = b.port2 := rfl
@[simp] theorem sramWrite_now (i : Nat) (v : Byte) (b : Block) :
    (sramWrite i v b).now = b.now := rfl
@[simp] theorem sramWrite_isReset (i : Nat) (v : Byte) (b : Block) :
    (sramWrite i v b).isReset = b.isReset := rfl
@[simp] theorem sramWrite_busReq (i : Nat) (v : Byte) (b : Block) :
    (sramWrite i v b).busReq = b.busReq := rfl
@[simp] theorem sramWrite_busAck (i : Nat) (v : Byte) (b : Block) :
    (sramWrite i v b).busAck = b.busAck := rfl
@[simp] theorem sramWrite_secBusy (i : Nat) (v : Byte) (b : Block) :
    (sramWrite i v b).secBusy = b.secBusy := rfl
@[simp] theorem sramWrite_bankSr (i : Nat) (v : Byte) (b : Block) :
    (sramWrite i v b).bankSr = b.bankSr := rfl
@[simp] theorem sramWrite_bankCount (i : Nat) (v : Byte) (b : Block) :
    (sramWrite i v b).bankCount = b.bankCount := rfl
@[simp] theorem sramWrite_bankBase (i : Nat) (v : Byte) (b : Block) :
    (sramWrite i v b).bankBase = b.bankBase := rfl
@[simp] theorem sramWrite_sram (i : Nat) (v : Byte) (b : Block) :
    (sramWrite i v b).sram = Memory.insert i v b.sram := rfl
@[simp] theorem sramWrite_sramSeed (i : Nat) (v : Byte) (b : Block) :
    (sramWrite i v b).sramSeed = b.sramSeed := rfl

@[simp] theorem requestBus_port0 (g : Bool) (b : Block) :
    (requestBus g b).port0 = b.port0 := rfl
@[simp] theorem requestBus_port1 (g : Bool) (b : Block) :
    (requestBus g b).port1 = b.port1 := rfl
@[simp] theorem requestBus_port2 (g : Bool) (b : Block) :
    (requestBus g b).port2 = b.port2 := rfl
@[simp] theorem requestBus_now (g : Bool) (b : Block) :
    (requestBus g b).now = b.now := rfl
@[simp] theorem requestBus_isReset (g : Bool) (b : Block) :
    (requestBus g b).isReset = b.isReset := rfl
@[simp] theorem requestBus_busReq (g : Bool) (b : Block) :
    (requestBus g b).busReq = g := rfl
@[simp] theorem requestBus_busAck (g : Bool) (b : Block) :
    (requestBus g b).busAck = (g && b.busAck) := rfl
@[simp] theorem requestBus_secBusy (g : Bool) (b : Block) :
    (requestBus g b).secBusy = b.secBusy := rfl
@[simp] theorem requestBus_bankSr (g : Bool) (b : Block) :
    (requestBus g b).bankSr = b.bankSr := rfl
@[simp] theorem requestBus_bankCount (g : Bool) (b : Block) :
    (requestBus g b).bankCount = b.bankCount := rfl
@[simp] theorem requestBus_bankBase (g : Bool) (b : Block) :
    (requestBus g b).bankBase = b.bankBase := rfl
@[simp] theorem requestBus_sram (g : Bool) (b : Block) :
    (requestBus g b).sram = b.sram := rfl
@[simp] theorem requestBus_sramSeed (g : Bool) (b : Block) :
    (requestBus g b).sramSeed = b.sramSeed := rfl

@[simp] theorem requestReset_port0 (v : Bool) (b : Block) :
    (requestReset v b).port0 = b.port0 := rfl
@[simp] theorem requestReset_port1 (v : Bool) (b : Block) :
    (requestReset v b).port1 = b.port1 := rfl
@[simp] theorem requestReset_port2 (v : Bool) (b : Block) :
    (requestReset v b).port2 = b.port2 := rfl
@[simp] theorem requestReset_now (v : Bool) (b : Block) :
    (requestReset v b).now = b.now := rfl
@[simp] theorem requestReset_isReset (v : Bool) (b : Block) :
    (requestReset v b).isReset = !v := rfl
@[simp] theorem requestReset_busReq (v : Bool) (b : Block) :
    (requestReset v b).busReq = b.busReq := rfl
@[simp] theorem requestReset_busAck (v : Bool) (b : Block) :
    (requestReset v b).busAck = b.busAck := rfl
@[simp] theorem requestReset_secBusy (v : Bool) (b : Block) :
    (requestReset v b).secBusy = b.secBusy := rfl
@[simp] theorem requestReset_bankSr (v : Bool) (b : Block) :
    (requestReset v b).bankSr = b.bankSr := rfl
@[simp] theorem requestReset_bankCount (v : Bool) (b : Block) :
    (requestReset v b).bankCount = b.bankCount := rfl
@[simp] theorem requestReset_bankBase (v : Bool) (b : Block) :
    (requestReset v b).bankBase = b.bankBase := rfl
@[simp] theorem requestReset_sram (v : Bool) (b : Block) :
    (requestReset v b).sram = b.sram := rfl
@[simp] theorem requestReset_sramSeed (v : Bool) (b : Block) :
    (requestReset v b).sramSeed = b.sramSeed := rfl

@[simp] theorem bankShift_port0 (v : Bool) (b : Block) :
    (bankShift v b).port0 = b.port0 := rfl
@[simp] theorem bankShift_port1 (v : Bool) (b : Block) :
    (bankShift v b).port1 = b.port1 := rfl
@[simp] theorem bankShift_port2 (v : Bool) (b : Block) :
    (bankShift v b).port2 = b.port2 := rfl
@[simp] theorem bankShift_now (v : Bool) (b : Block) :
    (bankShift v b).now = b.now := rfl
@[simp] theorem bankShift_isReset (v : Bool) (b : Block) :
    (bankShift v b).isReset = b.isReset := rfl
@[simp] theorem bankShift_busReq (v : Bool) (b : Block) :
    (bankShift v b).busReq = b.busReq := rfl
@[simp] theorem bankShift_busAck (v : Bool) (b : Block) :
    (bankShift v b).busAck = b.busAck := rfl
@[simp] theorem bankShift_secBusy (v : Bool) (b : Block) :
    (bankShift v b).secBusy = b.secBusy := rfl
@[simp] theorem bankShift_bankCount (v : Bool) (b : Block) :
    (bankShift v b).bankCount = min (b.bankCount + 1) 9 := rfl
@[simp] theorem bankShift_bankBase (v : Bool) (b : Block) :
    (bankShift v b).bankBase = bankBaseOf (bankShift v b).bankSr := rfl
@[simp] theorem bankShift_sram (v : Bool) (b : Block) :
    (bankShift v b).sram = b.sram := rfl
@[simp] theorem bankShift_sramSeed (v : Bool) (b : Block) :
    (bankShift v b).sramSeed = b.sramSeed := rfl

@[simp] theorem advanceTime_port0 (dt : Nat) (b : Block) :
    (advanceTime dt b).port0 = expireIfDue (b.now + dt) b.port0 := rfl
@[simp] theorem advanceTime_port1 (dt : Nat) (b : Block) :
    (advanceTime dt b).port1 = expireIfDue (b.now + dt) b.port1 := rfl
@[simp] theorem advanceTime_port2 (dt : Nat) (b : Block) :
    (advanceTime dt b).port2 = expireIfDue (b.now + dt) b.port2 := rfl
@[simp] theorem advanceTime_now (dt : Nat) (b : Block) :
    (advanceTime dt b).now = b.now + dt := rfl
@[simp] theorem advanceTime_isReset (dt : Nat) (b : Block) :
    (advanceTime dt b).isReset = b.isReset := rfl
@[simp] theorem advanceTime_busReq (dt : Nat) (b : Block) :
    (advanceTime dt b).busReq = b.busReq := rfl
@[simp] theorem advanceTime_busAck (dt : Nat) (b : Block) :
    (advanceTime dt b).busAck = b.busAck := rfl
@[simp] theorem advanceTime_secBusy (dt : Nat) (b : Block) :
    (advanceTime dt b).secBusy = b.secBusy := rfl
@[simp] theorem advanceTime_bankSr (dt : Nat) (b : Block) :
    (advanceTime dt b).bankSr = b.bankSr := rfl
@[simp] theorem advanceTime_bankCount (dt : Nat) (b : Block) :
    (advanceTime dt b).bankCount = b.bankCount := rfl
@[simp] theorem advanceTime_bankBase (dt : Nat) (b : Block) :
    (advanceTime dt b).bankBase = b.bankBase := rfl
@[simp] theorem advanceTime_sram (dt : Nat) (b : Block) :
    (advanceTime dt b).sram = b.sram := rfl
@[simp] theorem advanceTime_sramSeed (dt : Nat) (b : Block) :
    (advanceTime dt b).sramSeed = b.sramSeed := rfl

@[simp] theorem hardwareResetBlock_port0 (b : Block) :
    (hardwareResetBlock b).port0 = hardwareResetPort b.port0 := rfl
@[simp] theorem hardwareResetBlock_port1 (b : Block) :
    (hardwareResetBlock b).port1 = hardwareResetPort b.port1 := rfl
@[simp] theorem hardwareResetBlock_port2 (b : Block) :
    (hardwareResetBlock b).port2 = hardwareResetPort b.port2 := rfl
@[simp] theorem hardwareResetBlock_now (b : Block) :
    (hardwareResetBlock b).now = b.now := rfl
@[simp] theorem hardwareResetBlock_isReset (b : Block) :
    (hardwareResetBlock b).isReset = true := rfl
@[simp] theorem hardwareResetBlock_busReq (b : Block) :
    (hardwareResetBlock b).busReq = false := rfl
@[simp] theorem hardwareResetBlock_busAck (b : Block) :
    (hardwareResetBlock b).busAck = false := rfl
@[simp] theorem hardwareResetBlock_secBusy (b : Block) :
    (hardwareResetBlock b).secBusy = false := rfl
@[simp] theorem hardwareResetBlock_bankSr (b : Block) :
    (hardwareResetBlock b).bankSr = b.bankSr := rfl
@[simp] theorem hardwareResetBlock_bankCount (b : Block) :
    (hardwareResetBlock b).bankCount = b.bankCount := rfl
@[simp] theorem hardwareResetBlock_bankBase (b : Block) :
    (hardwareResetBlock b).bankBase = b.bankBase := rfl
@[simp] theorem hardwareResetBlock_sram (b : Block) :
    (hardwareResetBlock b).sram = b.sram := rfl
@[simp] theorem hardwareResetBlock_sramSeed (b : Block) :
    (hardwareResetBlock b).sramSeed = b.sramSeed := rfl

end Sys2Proof.Machine
end

