-- ==== Sys2Proof/Laws/Memory.lean ====
section
/-! SUPPORT. SharedRAM as a list of cells: read after write, the canonical form is kept, and equal contents are equal
lists. -/

namespace Sys2Proof.Machine

/-- A written byte reads back. -/
@[simp] theorem lookup_insert_self (i : Nat) (v : Byte) (m : Memory) :
    Memory.lookup i (Memory.insert i v m) = some v := by
  induction m with
  | nil => simp [Memory.insert, Memory.lookup]
  | cons c m ih =>
    obtain ⟨j, w⟩ := c
    unfold Memory.insert
    split
    · simp [Memory.lookup]
    · split
      · simp [Memory.lookup]
      · rename_i h
        simp [Memory.lookup, h, ih]

/-- A write leaves every other index alone. -/
theorem lookup_insert_ne {i k : Nat} (h : k ≠ i) (v : Byte) (m : Memory) :
    Memory.lookup k (Memory.insert i v m) = Memory.lookup k m := by
  induction m with
  | nil => simp [Memory.insert, Memory.lookup, h]
  | cons c m ih =>
    obtain ⟨j, w⟩ := c
    unfold Memory.insert
    split
    · simp [Memory.lookup, h]
    · split
      · rename_i hij
        subst hij
        simp [Memory.lookup, h]
      · simp only [Memory.lookup, ih]

/-- Reading SharedRAM after a write: the byte written, or the byte it held. -/
theorem sramRead_sramWrite (i k : Nat) (v : Byte) (b : Block) :
    sramRead (sramWrite i v b) k = if k = i then v else sramRead b k := by
  by_cases h : k = i
  · subst h
    simp [sramRead]
  · simp [sramRead, sramWrite, lookup_insert_ne h, h]

/-- Inserting an index of the range keeps the indices rising. -/
theorem risingFrom_insert (i : Nat) (v : Byte) (hi : i < Config.sramSize) (m : Memory) :
    ∀ lo, lo ≤ i → Memory.risingFrom lo m = true → Memory.risingFrom lo (Memory.insert i v m) = true := by
  induction m with
  | nil =>
    intro lo hlo _
    simp [Memory.insert, Memory.risingFrom, hlo, hi]
  | cons c m ih =>
    obtain ⟨j, w⟩ := c
    intro lo hlo hm
    simp only [Memory.risingFrom, Bool.and_eq_true, decide_eq_true_eq] at hm
    obtain ⟨⟨hj, hjs⟩, hrest⟩ := hm
    unfold Memory.insert
    split
    · rename_i hij
      simp only [Memory.risingFrom, Bool.and_eq_true, decide_eq_true_eq]
      exact ⟨⟨hlo, hi⟩, ⟨hij, hjs⟩, hrest⟩
    · split
      · rename_i hij
        subst hij
        simp only [Memory.risingFrom, Bool.and_eq_true, decide_eq_true_eq]
        exact ⟨⟨hlo, hi⟩, hrest⟩
      · rename_i h1 h2
        simp only [Memory.risingFrom, Bool.and_eq_true, decide_eq_true_eq]
        exact ⟨⟨hj, hjs⟩, ih (j + 1) (by omega) hrest⟩

/-- A write keeps SharedRAM's canonical form. -/
theorem wf_insert {i : Nat} (hi : i < Config.sramSize) (v : Byte) {m : Memory} (hm : Memory.wf m = true) :
    Memory.wf (Memory.insert i v m) = true :=
  risingFrom_insert i v hi m 0 (Nat.zero_le i) hm

/-- Below the least index a rising list holds nothing. -/
theorem lookup_below {m : Memory} : ∀ {lo k : Nat}, Memory.risingFrom lo m = true → k < lo →
    Memory.lookup k m = none := by
  induction m with
  | nil => intros; rfl
  | cons c m ih =>
    obtain ⟨j, w⟩ := c
    intro lo k hm hk
    simp only [Memory.risingFrom, Bool.and_eq_true, decide_eq_true_eq] at hm
    have hne : k ≠ j := by omega
    simp only [Memory.lookup, hne, if_false]
    exact ih hm.2 (by omega)

/-- Two rising lists that hold the same bytes are the same list. -/
theorem rising_ext : ∀ {m m' : Memory} {lo : Nat}, Memory.risingFrom lo m = true →
    Memory.risingFrom lo m' = true → (∀ k, Memory.lookup k m = Memory.lookup k m') → m = m'
  | [], [], _, _, _, _ => rfl
  | [], (j, w) :: _, _, _, _, h => by
    have := h j
    simp [Memory.lookup] at this
  | (j, w) :: _, [], _, _, _, h => by
    have := h j
    simp [Memory.lookup] at this
  | (j, w) :: m, (j', w') :: m', lo, hm, hm', h => by
    simp only [Memory.risingFrom, Bool.and_eq_true, decide_eq_true_eq] at hm hm'
    have hjj : j = j' := by
      rcases Nat.lt_trichotomy j j' with hlt | heq | hlt
      · have h1 := h j
        have hne : j ≠ j' := by omega
        simp [Memory.lookup, hne, lookup_below hm'.2 (show j < j' + 1 by omega)] at h1
      · exact heq
      · have h1 := h j'
        have hne : j' ≠ j := by omega
        simp [Memory.lookup, hne, lookup_below hm.2 (show j' < j + 1 by omega)] at h1
    subst hjj
    have hw : w = w' := by
      have h1 := h j
      simpa [Memory.lookup] using h1
    subst hw
    have htail : m = m' := by
      apply rising_ext hm.2 hm'.2
      intro k
      by_cases hk : k = j
      · subst hk
        rw [lookup_below hm.2 (Nat.lt_succ_self k), lookup_below hm'.2 (Nat.lt_succ_self k)]
      · have h1 := h k
        simpa [Memory.lookup, hk] using h1
    rw [htail]

/-- Equal memories are equal data: two canonical lists with the same bytes are the same list. -/
theorem wf_ext {m m' : Memory} (hm : Memory.wf m = true) (hm' : Memory.wf m' = true)
    (h : ∀ k, Memory.lookup k m = Memory.lookup k m') : m = m' :=
  rising_ext hm hm' h

/-- A SharedRAM index of a primary or secondary access is in range. -/
theorem sramIndex_lt (off : BitVec 14) : sramIndex off < Config.sramSize :=
  Nat.mod_lt _ (by decide)

end Sys2Proof.Machine
end

