-- ==== Sys2Proof/Laws/Ops.lean ====
section
/-! SUPPORT. What each shared operation can do, said once: the port operations keep the port's invariant, each
shared outcome is named by its next state, and the record check of H.RESTORE is the invariant. -/

namespace Sys2Proof.Machine

/-! ### Lanes and rows, bit by bit -/

/-- The low lane of a word made of two lanes (R45). -/
@[simp] theorem lowLane_lanes (a b : Byte) : (lanes a b).extractLsb' 0 8 = b := by
  apply BitVec.eq_of_getLsbD_eq
  intro i hi
  simp only [BitVec.getLsbD_extractLsb', lanes, BitVec.getLsbD_append, hi, Nat.zero_add, if_true,
    decide_true, Bool.true_and]

/-- The high lane of a word made of two lanes (R45). -/
@[simp] theorem highLane_lanes (a b : Byte) : (lanes a b).extractLsb' 8 8 = a := by
  apply BitVec.eq_of_getLsbD_eq
  intro i hi
  have h : ¬ 8 + i < 8 := by omega
  simp only [BitVec.getLsbD_extractLsb', lanes, BitVec.getLsbD_append, hi, h, if_false, decide_true,
    Bool.true_and, Nat.add_sub_cancel_left]

/-- Bits of a row of six buttons (R69). -/
theorem row_bits : ∀ (a b c d e f : Bool) (k : Fin 6),
    (BitVec.ofBool a ++ BitVec.ofBool b ++ BitVec.ofBool c ++ BitVec.ofBool d ++ BitVec.ofBool e ++
      BitVec.ofBool f : BitVec 6).getLsbD k =
      (match k with | 5 => a | 4 => b | 3 => c | 2 => d | 1 => e | 0 => f) := by
  decide

/-- Bits of the sentinel row over a normal row (R100). -/
theorem sentinel_bits : ∀ (row : BitVec 6) (k : Fin 6),
    (row.extractLsb' 4 2 ++ 0b0000#4 : BitVec 6).getLsbD k = (decide (4 ≤ k.val) && row.getLsbD k) := by
  decide

/-- Bits of the extended row over a normal row (R100). -/
theorem extended_bits (row : BitVec 6) (c d e f : Bool) (k : Fin 6) :
    (row.extractLsb' 4 2 ++ BitVec.ofBool c ++ BitVec.ofBool d ++ BitVec.ofBool e ++
      BitVec.ofBool f : BitVec 6).getLsbD k =
      (match k with | 5 => row.getLsbD 5 | 4 => row.getLsbD 4 | 3 => c | 2 => d | 1 => e | 0 => f) := by
  have h : ∀ (t : BitVec 2) (c d e f : Bool) (k : Fin 6),
      (t ++ BitVec.ofBool c ++ BitVec.ofBool d ++ BitVec.ofBool e ++ BitVec.ofBool f : BitVec 6).getLsbD k =
        (match k with | 5 => t.getLsbD 1 | 4 => t.getLsbD 0 | 3 => c | 2 => d | 1 => e | 0 => f) := by
    decide
  rw [h]
  fin_cases k <;> simp

/-- Bits of the pins of a port (R101). -/
theorem pin_bits : ∀ (sel : Bool) (row : BitVec 6) (k : Fin 8),
    (1#1 ++ BitVec.ofBool sel ++ row : BitVec 8).getLsbD k =
      if k.val = 7 then true else if k.val = 6 then sel else row.getLsbD k := by
  decide

/-! ### Ports -/

/-- The write epilogue: the line takes its level, and a changed level is one transition (R102, R110). -/
theorem portWriteEpilogue_spec (timeout now : Nat) (old q : Port) :
    let r := portWriteEpilogue timeout now old.sel q
    r.data = q.data ∧ r.ctrl = q.ctrl ∧ r.serial = q.serial ∧ r.sel = lineLevel q.ctrl q.data ∧
    (lineLevel q.ctrl q.data = old.sel → r = { q with sel := old.sel }) ∧
    (lineLevel q.ctrl q.data ≠ old.sel →
      r = selectTransition timeout now { q with sel := lineLevel q.ctrl q.data }) := by
  unfold portWriteEpilogue
  by_cases h : lineLevel q.ctrl q.data = old.sel
  · simp [h]
  · simp [h, selectTransition]

/-- The stage successor stays in 1..4 (R111). -/
theorem nextStage_le {k : Nat} (h : k ≤ 4) : nextStage k ≤ 4 := by
  unfold nextStage
  split
  · omega
  · rename_i h4
    have h5 : k ≠ 4 := h4
    omega

/-- The timeout is at least one tick (R3). -/
theorem timeout_pos : 0 < Config.timeout := Nat.succ_pos _

/-- The write epilogue keeps the port's invariant (R13, R14, R142). -/
theorem portWriteEpilogue_inv {timeout now : Nat} (ht : 0 < timeout) (selOld : Bool) {q : Port}
    (hs : q.stage ≤ 4) (hd : q.armed = true → now < q.deadline) :
    PortInv now (portWriteEpilogue timeout now selOld q) := by
  unfold portWriteEpilogue
  dsimp only
  split
  · exact ⟨rfl, hs, hd⟩
  · exact ⟨rfl, nextStage_le hs, fun _ => Nat.lt_add_of_pos_right ht⟩

/-- Firing a timer that is due leaves no due timer (R141, R142). -/
theorem expireIfDue_inv (now now' : Nat) {q : Port} (h : PortInv now q) : PortInv now' (expireIfDue now' q) := by
  obtain ⟨h1, h2, _⟩ := h
  unfold expireIfDue timerDue
  split
  · exact ⟨h1, by simp [expireEffect], by simp [expireEffect]⟩
  · rename_i hd
    refine ⟨h1, h2, fun ha => ?_⟩
    simp [ha] at hd
    omega

/-- A port after a hardware reset meets the invariant (R251). -/
theorem hardwareResetPort_inv (now : Nat) (q : Port) : PortInv now (hardwareResetPort q) :=
  ⟨by simp [hardwareResetPort, cancelTimer], Nat.zero_le _, fun h => by simp [hardwareResetPort, cancelTimer] at h⟩

/-- Under the invariant no callback takes effect (R143): every due timer has already fired. -/
theorem callbackValid_false {now g : Nat} {q : Port} (h : PortInv now q) : callbackValid now g q = false := by
  obtain ⟨_, _, h3⟩ := h
  unfold callbackValid
  cases ha : q.armed with
  | false => rfl
  | true =>
    have := h3 ha
    have hd : decide (q.deadline ≤ now) = false := decide_eq_false (by omega)
    simp [hd]

/-! ### Arbiter and bank register -/

/-- BANK_BASE as a number (R24). -/
theorem bankBaseOf_toNat (sr : BitVec 9) : (bankBaseOf sr).toNat = sr.toNat * 0x8000 := by
  have h := sr.isLt
  simp only [bankBaseOf, BitVec.toNat_shiftLeft, BitVec.toNat_setWidth, Nat.shiftLeft_eq]
  omega

/-- Bit `k` of the shifted register: the new bit on top, the rest one place down (R170). -/
theorem bankShift_bit (bit : Bool) (b : Block) (k : Nat) :
    (bankShift bit b).bankSr.getLsbD k = if k = 8 then bit else b.bankSr.getLsbD (k + 1) := by
  simp only [bankShift, BitVec.getLsbD_append, BitVec.getLsbD_extractLsb', BitVec.getLsbD_ofBool]
  by_cases h8 : k = 8
  · simp [h8]
  · by_cases hk : k < 8
    · simp [hk, h8, Nat.add_comm]
    · have h0 : ¬ (k - 8 = 0) := by omega
      have hge : b.bankSr.getLsbD (k + 1) = false := BitVec.getLsbD_of_ge _ _ (by omega)
      simp [hk, h8, h0, hge]

/-! ### The record check -/

theorem portConsistent_iff (now : Nat) (q : Port) : portConsistent now q = true ↔ PortInv now q := by
  simp only [portConsistent, PortInv, lineLevel, timerDue, Bool.and_eq_true, decide_eq_true_eq,
    Bool.not_eq_true', Bool.and_eq_false_iff, decide_eq_false_iff_not, and_assoc]
  refine and_congr decide_eq_true_iff (and_congr Iff.rfl ?_)
  cases q.armed <;> simp

/-- H.RESTORE's check is the invariant of the block (R263). -/
theorem blockConsistent_iff (b : Block) : blockConsistent b = true ↔ BlockInv b := by
  have hbase : b.bankBase = bankBaseOf b.bankSr ↔ b.bankBase.toNat = b.bankSr.toNat * 0x8000 := by
    rw [← bankBaseOf_toNat]
    exact ⟨fun h => by rw [h], BitVec.eq_of_toNat_eq⟩
  simp only [blockConsistent, arbiterConsistent, bankConsistent, Bool.and_eq_true, portConsistent_iff,
    decide_eq_true_eq, hbase, BlockInv, and_assoc]
  cases b.busAck <;> cases b.busReq <;> cases b.secBusy <;> simp

/-! ### Outcomes -/

theorem updateBlock_next {f : Block → Block} {s t : State} (h : updateBlock f s = .next t) :
    t = setBlk (f s.blk) s := by
  cases h
  rfl

theorem updatePort_next {p : PortId} {f : Port → Port} {s t : State} (h : updatePort p f s = .next t) :
    t = setBlk (setPort s.blk p (f (getPort s.blk p))) s := updateBlock_next h

theorem replyByte_next {v : Byte} {s t : State} (h : replyByte v s = .next t) : t = setResult (.byte v) s := by
  cases h
  rfl

theorem replyWord_next {w : Half} {s t : State} (h : replyWord w s = .next t) : t = setResult (.word w) s := by
  cases h
  rfl

theorem replyLowLane_next {v : Byte} {s t : State} (h : replyLowLane v s = .next t) :
    t = setResult (.word (lanes (Config.draw8 s.draws) v)) (tickDraws s) := replyWord_next h

theorem replyAnyByte_next {s t : State} (h : replyAnyByte s = .next t) :
    t = setResult (.byte (Config.draw8 s.draws)) (tickDraws s) := replyByte_next h

theorem replyAnyWord_next {s t : State} (h : replyAnyWord s = .next t) :
    t = setResult (.word (Config.draw16 s.draws)) (tickDraws s) := replyWord_next h

theorem ignoreWrite_next {v : Byte} {s t : State} (h : ignoreWrite v s = .next t) : t = s := by
  cases h
  rfl

/-- A secondary access answers only while an instruction is in flight (R202). -/
theorem duringInstruction_next {f : State → Out} {s t : State} (h : duringInstruction f s = .next t) :
    s.blk.secBusy = true ∧ f s = .next t := by
  unfold duringInstruction at h
  split at h
  · exact ⟨‹_›, h⟩
  · cases h

/-- A primary write path acts only with the grant (R191, R193). -/
theorem whileGranted_next {f : State → Out} {s t : State} (h : whileGranted f s = .next t) :
    (s.blk.busAck = true ∧ f s = .next t) ∨ (s.blk.busAck = false ∧ t = s) := by
  unfold whileGranted at h
  split at h
  · exact .inl ⟨‹_›, h⟩
  · cases h
    rename_i hg
    exact .inr ⟨Bool.eq_false_iff.mpr hg, rfl⟩

theorem readSound_next {reg : BitVec 2} {reply : Byte → Result} {s t : State}
    (h : readSound reg reply s = .next t) :
    t = setResult (reply (soundAnswer s reg)) (logAccess (.soundRead reg (soundAnswer s reg)) (tickDraws s)) := by
  cases h
  rfl

theorem writeSound_next {reg : BitVec 2} {v : Byte} {s t : State} (h : writeSound reg v s = .next t) :
    t = logAccess (.soundWrite reg v) s := by
  cases h
  rfl

theorem readVdp_next {port : BitVec 5} {lane : Half → Byte} {s t : State} (h : readVdp port lane s = .next t) :
    t = setResult (.byte (lane (vdpAnswer s port))) (logAccess (.vdpRead port (vdpAnswer s port)) (tickDraws s)) := by
  cases h
  rfl

theorem writeVdp_next {port : BitVec 5} {w : Half} {s t : State} (h : writeVdp port w s = .next t) :
    t = logAccess (.vdpWrite port w) s := by
  cases h
  rfl

theorem readWindow_next {ea : PrimaryAddr} {s t : State} (h : readWindow ea s = .next t) :
    inOwnWindow ea = false ∧
    t = setResult (.byte (primaryAnswer s ea)) (logAccess (.primaryRead ea (primaryAnswer s ea)) (tickDraws s)) := by
  unfold readWindow at h
  split at h
  · cases h
  · cases h
    rename_i hw
    exact ⟨Bool.eq_false_iff.mpr hw, rfl⟩

theorem writeWindow_next {ea : PrimaryAddr} {v : Byte} {s t : State} (h : writeWindow ea v s = .next t) :
    inOwnWindow ea = false ∧ t = logAccess (.primaryWrite ea v) s := by
  unfold writeWindow at h
  split at h
  · cases h
  · cases h
    rename_i hw
    exact ⟨Bool.eq_false_iff.mpr hw, rfl⟩

/-- The effective address of a bank-window access as a number: it never carries out of 24 bits (R43). -/
theorem windowEA_toNat {base : BitVec 24} {sr : BitVec 9} (h : base.toNat = sr.toNat * 0x8000) (off : BitVec 15) :
    (windowEA base off).toNat = sr.toNat * 0x8000 + off.toNat := by
  have h1 := sr.isLt
  have h2 := off.isLt
  simp only [windowEA, BitVec.toNat_add, BitVec.toNat_setWidth, h]
  omega

theorem inOwnWindow_iff (ea : PrimaryAddr) : inOwnWindow ea = true ↔ OwnWindow ea.toNat := by
  simp [inOwnWindow, OwnWindow, or_assoc]

/-! ### The step -/

/-- Everything a step can do: wait with nothing scheduled, or run the instruction the next request decodes to. -/
theorem step_next {s t : State} (h : step s = .next t) :
    (s.schedule = [] ∧ t = s) ∨
    (∃ q rest i, s.schedule = q :: rest ∧ decode q = .ok i ∧ exec i (beginOperation rest s) = .next t) := by
  unfold step at h
  split at h
  · rename_i hs
    cases h
    exact .inl ⟨hs, rfl⟩
  · rename_i q rest hs
    split at h
    · exact .inr ⟨q, rest, _, hs, ‹_›, h⟩
    · cases h

end Sys2Proof.Machine
end

