-- ==== Sys2Proof/Laws/Exec.lean ====
section
/-! SUPPORT. Everything an instruction can do to the block, said once over all instructions, so that a statement about
every instruction is a case analysis over these effects and no longer over the opcode table. -/

namespace Sys2Proof.Machine

/-- `BlockEffect i s b`: instruction `i`, run in state `s`, can leave the block `b`. -/
inductive BlockEffect : Instr → State → Block → Prop where
  /-- Every read, every dropped, ignored or held operation, the device writes, I.PADSET and H.SAVE. -/
  | unchanged (i : Instr) (s : State) : BlockEffect i s s.blk
  /-- A byte write of a data register (R104). -/
  | dataByte (p : PortId) (v : Byte) (s : State) : BlockEffect (wbData p v) s
      (setPort s.blk p (writeData Config.timeout s.blk.now v (getPort s.blk p)))
  /-- A word write of a data register (R104). -/
  | dataWord (p : PortId) (v : Half) (s : State) : BlockEffect (wwData p v) s
      (setPort s.blk p (writeData Config.timeout s.blk.now (lowLane v) (getPort s.blk p)))
  /-- A byte write of a control register (R106). -/
  | ctrlByte (p : PortId) (v : Byte) (s : State) : BlockEffect (wbCtrl p v) s
      (setPort s.blk p (writeCtrl Config.timeout s.blk.now v (getPort s.blk p)))
  /-- A word write of a control register (R106). -/
  | ctrlWord (p : PortId) (v : Half) (s : State) : BlockEffect (wwCtrl p v) s
      (setPort s.blk p (writeCtrl Config.timeout s.blk.now (lowLane v) (getPort s.blk p)))
  /-- A byte write of a serial register (R108). -/
  | serialByte (p : PortId) (v : Byte) (s : State) : BlockEffect (wbSerial p v) s
      (setPort s.blk p (writeSerial v (getPort s.blk p)))
  /-- A word write of a serial register (R108). -/
  | serialWord (p : PortId) (v : Half) (s : State) : BlockEffect (wwSerial p v) s
      (setPort s.blk p (writeSerial (lowLane v) (getPort s.blk p)))
  /-- A byte write of the bus-request register (R164). -/
  | busreqByte (v : Byte) (s : State) : BlockEffect (.pWbBusreq v) s (requestBus (controlBitOfByte v) s.blk)
  /-- A word write of the bus-request register (R164). -/
  | busreqWord (v : Half) (s : State) : BlockEffect (.pWwBusreq v) s (requestBus (controlBitOfWord v) s.blk)
  /-- A byte write of the reset register (R168). -/
  | resetByte (v : Byte) (s : State) : BlockEffect (.pWbReset v) s (requestReset (controlBitOfByte v) s.blk)
  /-- A word write of the reset register (R168). -/
  | resetWord (v : Half) (s : State) : BlockEffect (.pWwReset v) s (requestReset (controlBitOfWord v) s.blk)
  /-- A granted primary byte write of SharedRAM (R191). -/
  | sramByte (off : BitVec 14) (v : Byte) (s : State) (h : s.blk.busAck = true) :
      BlockEffect (.pWbSram off v) s (sramWrite (sramIndex off) v s.blk)
  /-- A granted primary word write of SharedRAM (R191). -/
  | sramWord (off : BitVec 14) (v : Half) (s : State) (h : s.blk.busAck = true) :
      BlockEffect (.pWwSram off v) s (sramWrite (sramIndex off) (highLane v) s.blk)
  /-- A secondary write of SharedRAM inside an instruction (R195). -/
  | sramSecondary (off : BitVec 14) (v : Byte) (s : State) (h : s.blk.secBusy = true) :
      BlockEffect (.sWbSram off v) s (sramWrite (sramIndex off) v s.blk)
  /-- A bank-shift write inside an instruction (R170). -/
  | bank (off : BitVec 8) (v : Byte) (s : State) (h : s.blk.secBusy = true) :
      BlockEffect (.sWbBank off v) s (bankShift (controlBitOfByte v) s.blk)
  /-- S.BEGIN under its guard (R162). -/
  | secBegin (s : State) (h : secMayBegin s.blk = true) : BlockEffect .sBegin s { s.blk with secBusy := true }
  /-- S.END (R163). -/
  | secEnd (s : State) (h : s.blk.secBusy = true) : BlockEffect .sEnd s { s.blk with secBusy := false }
  /-- ARB.ACK under its guard (R165). -/
  | grant (s : State) (h : ackDue s.blk = true) : BlockEffect .arbAck s { s.blk with busAck := true }
  /-- T.ADV (R141). -/
  | advance (dt : Nat) (s : State) : BlockEffect (.tAdv dt) s (advanceTime dt s.blk)
  /-- T.EXPIRE of a port the block has (R143). -/
  | callback (k g : Nat) (p : PortId) (s : State) (h : portOperand k = some p) : BlockEffect (.tExpire k g) s
      (setPort s.blk p (if callbackValid s.blk.now g (getPort s.blk p) then expireEffect (getPort s.blk p)
        else getPort s.blk p))
  /-- H.RESET (R251). -/
  | hardReset (s : State) : BlockEffect .hReset s (hardwareResetBlock s.blk)
  /-- H.POWERON (R250). -/
  | powerOn (s : State) : BlockEffect .hPoweron s (powerOnBlock s.draws)
  /-- H.RESTORE of a consistent record (R263). -/
  | restore (r : Block) (s : State) (h : blockConsistent r = true) : BlockEffect (.hRestore r) s r

/-- A next state whose block is the old one. -/
theorem BlockEffect.of_eq {i : Instr} {s t : State} (h : t.blk = s.blk) : BlockEffect i s t.blk :=
  h ▸ .unchanged i s

/-- Every instruction that gives a next state has one of the effects. -/
theorem exec_blockEffect {i : Instr} {s t : State} (h : exec i s = .next t) : BlockEffect i s t.blk := by
  cases i
  all_goals try (injection h with h; subst h; exact .unchanged _ s)
  case pWbData0 v => injection h with h; subst h; exact .dataByte 0 v s
  case pWbData1 v => injection h with h; subst h; exact .dataByte 1 v s
  case pWbData2 v => injection h with h; subst h; exact .dataByte 2 v s
  case pWwData0 v => injection h with h; subst h; exact .dataWord 0 v s
  case pWwData1 v => injection h with h; subst h; exact .dataWord 1 v s
  case pWwData2 v => injection h with h; subst h; exact .dataWord 2 v s
  case pWbCtrl0 v => injection h with h; subst h; exact .ctrlByte 0 v s
  case pWbCtrl1 v => injection h with h; subst h; exact .ctrlByte 1 v s
  case pWbCtrl2 v => injection h with h; subst h; exact .ctrlByte 2 v s
  case pWwCtrl0 v => injection h with h; subst h; exact .ctrlWord 0 v s
  case pWwCtrl1 v => injection h with h; subst h; exact .ctrlWord 1 v s
  case pWwCtrl2 v => injection h with h; subst h; exact .ctrlWord 2 v s
  case pWbSerial0 v => injection h with h; subst h; exact .serialByte 0 v s
  case pWbSerial1 v => injection h with h; subst h; exact .serialByte 1 v s
  case pWbSerial2 v => injection h with h; subst h; exact .serialByte 2 v s
  case pWwSerial0 v => injection h with h; subst h; exact .serialWord 0 v s
  case pWwSerial1 v => injection h with h; subst h; exact .serialWord 1 v s
  case pWwSerial2 v => injection h with h; subst h; exact .serialWord 2 v s
  case pWbBusreq v => injection h with h; subst h; exact .busreqByte v s
  case pWwBusreq v => injection h with h; subst h; exact .busreqWord v s
  case pWbReset v => injection h with h; subst h; exact .resetByte v s
  case pWwReset v => injection h with h; subst h; exact .resetWord v s
  case tAdv dt => injection h with h; subst h; exact .advance dt s
  case hReset => injection h with h; subst h; exact .hardReset s
  case hPoweron => injection h with h; subst h; exact .powerOn s
  case pRbSnd off =>
    simp only [exec, execPRbSnd] at h
    split at h
    · exact .of_eq (by rw [readSound_next h]; rfl)
    · exact .of_eq (by rw [replyByte_next h]; rfl)
  case pRwSnd off =>
    simp only [exec, execPRwSnd] at h
    split at h
    · exact .of_eq (by rw [readSound_next h]; rfl)
    · exact .of_eq (by rw [replyWord_next h]; rfl)
  case pWbSnd off v =>
    rcases whileGranted_next h with ⟨_, h⟩ | ⟨_, rfl⟩
    · exact .of_eq (by rw [writeSound_next h]; rfl)
    · exact .unchanged _ _
  case pWwSnd off v =>
    rcases whileGranted_next h with ⟨_, h⟩ | ⟨_, rfl⟩
    · exact .of_eq (by rw [writeSound_next h]; rfl)
    · exact .unchanged _ _
  case pWbSram off v =>
    rcases whileGranted_next h with ⟨hg, h⟩ | ⟨_, rfl⟩
    · rw [updateBlock_next h]; exact .sramByte off v s hg
    · exact .unchanged _ _
  case pWwSram off v =>
    rcases whileGranted_next h with ⟨hg, h⟩ | ⟨_, rfl⟩
    · rw [updateBlock_next h]; exact .sramWord off v s hg
    · exact .unchanged _ _
  case sRbSram off => exact .of_eq (by rw [replyByte_next (duringInstruction_next h).2]; rfl)
  case sRbSnd off => exact .of_eq (by rw [readSound_next (duringInstruction_next h).2]; rfl)
  case sWbSnd off v => exact .of_eq (by rw [writeSound_next (duringInstruction_next h).2]; rfl)
  case sRbBank off => exact .of_eq (by rw [replyAnyByte_next (duringInstruction_next h).2]; rfl)
  case sRbVdp off => exact .of_eq (by rw [readVdp_next (duringInstruction_next h).2]; rfl)
  case sWbVdp off v => exact .of_eq (by rw [writeVdp_next (duringInstruction_next h).2]; rfl)
  case sRbWin off => exact .of_eq (by rw [(readWindow_next (duringInstruction_next h).2).2]; rfl)
  case sWbWin off v => exact .of_eq (by rw [(writeWindow_next (duringInstruction_next h).2).2]; rfl)
  case sWbSram off v =>
    obtain ⟨hb, h⟩ := duringInstruction_next h
    rw [updateBlock_next h]; exact .sramSecondary off v s hb
  case sWbBank off v =>
    obtain ⟨hb, h⟩ := duringInstruction_next h
    rw [updateBlock_next h]; exact .bank off v s hb
  case sBegin =>
    simp only [exec, execSBegin] at h
    split at h
    · rw [updateBlock_next h]; exact .secBegin s ‹_›
    · cases h; exact .unchanged _ _
  case arbAck =>
    simp only [exec, execArbAck] at h
    split at h
    · rw [updateBlock_next h]; exact .grant s ‹_›
    · cases h; exact .unchanged _ _
  case sEnd =>
    simp only [exec, execSEnd] at h
    split at h
    · rw [updateBlock_next h]; exact .secEnd s ‹_›
    · cases h
  case tExpire k g =>
    simp only [exec, execTExpire] at h
    split at h
    · rw [updatePort_next h]; exact .callback k g _ s ‹_›
    · cases h
  case iPadset k d =>
    simp only [exec, execIPadset] at h
    split at h
    · cases h; exact .of_eq (by simp)
    · cases h
  case hRestore r =>
    simp only [exec, execHRestore] at h
    split at h
    · cases h; exact .restore r s ‹_›
    · cases h

end Sys2Proof.Machine
end

