-- ==== Sys2Proof/Laws/PerInstr.lean ====
section
/-! SUPPORT. Per-instruction lemmas over the instruction as syntax. -/

namespace Sys2Proof.Laws.AgentKind

open Sys2Proof Sys2Proof.Machine

/-- KIND (bits 31..28) of the operation word that spells an instruction is the agent's kind of R60. -/
def Statement (i : Instr) : Prop := ((encode i).word.extractLsb' 28 4).toNat = kindOf i

/-- A word whose KIND is checked by evaluation. -/
theorem of_word {k : Nat} (w : OpWord) (h : (w.extractLsb' 28 4).toNat = k) : (w.extractLsb' 28 4).toNat = k := h

/-- The four top bits of an append are those of its high part. -/
theorem kind_of_append {m k d : Nat} (hi : BitVec (4 + d)) (lo : BitVec k) (h : k + d = 28)
    (hm : (hi.extractLsb' d 4).toNat = m) : ((hi ++ lo).extractLsb' 28 4).toNat = m := by
  have h1 : (hi ++ lo).extractLsb' 28 4 = hi.extractLsb' d 4 := by
    apply BitVec.eq_of_getLsbD_eq
    intro i hi4
    have hk : ¬ 28 + i < k := by omega
    have hd : 28 + i - k = d + i := by omega
    simp [BitVec.getLsbD_extractLsb', BitVec.getLsbD_append, hk, hd]
  rw [h1, hm]

theorem pRbData0 : Statement (.pRbData0) := of_word (k := 0) 0x00A10003#32 (by decide)
theorem pWbData0 (v : Byte) : Statement (.pWbData0 v) := of_word (k := 0) 0x08A10003#32 (by decide)
theorem pRwData0 : Statement (.pRwData0) := of_word (k := 0) 0x04A10002#32 (by decide)
theorem pWwData0 (v : Half) : Statement (.pWwData0 v) := of_word (k := 0) 0x0CA10002#32 (by decide)
theorem pRbData0Hi : Statement (.pRbData0Hi) := of_word (k := 0) 0x00A10002#32 (by decide)
theorem pWbData0Hi (v : Byte) : Statement (.pWbData0Hi v) := of_word (k := 0) 0x08A10002#32 (by decide)
theorem pRbCtrl0 : Statement (.pRbCtrl0) := of_word (k := 0) 0x00A10009#32 (by decide)
theorem pWbCtrl0 (v : Byte) : Statement (.pWbCtrl0 v) := of_word (k := 0) 0x08A10009#32 (by decide)
theorem pRwCtrl0 : Statement (.pRwCtrl0) := of_word (k := 0) 0x04A10008#32 (by decide)
theorem pWwCtrl0 (v : Half) : Statement (.pWwCtrl0 v) := of_word (k := 0) 0x0CA10008#32 (by decide)
theorem pRbCtrl0Hi : Statement (.pRbCtrl0Hi) := of_word (k := 0) 0x00A10008#32 (by decide)
theorem pWbCtrl0Hi (v : Byte) : Statement (.pWbCtrl0Hi v) := of_word (k := 0) 0x08A10008#32 (by decide)
theorem pRbSerial0 : Statement (.pRbSerial0) := of_word (k := 0) 0x00A1000F#32 (by decide)
theorem pWbSerial0 (v : Byte) : Statement (.pWbSerial0 v) := of_word (k := 0) 0x08A1000F#32 (by decide)
theorem pRwSerial0 : Statement (.pRwSerial0) := of_word (k := 0) 0x04A1000E#32 (by decide)
theorem pWwSerial0 (v : Half) : Statement (.pWwSerial0 v) := of_word (k := 0) 0x0CA1000E#32 (by decide)
theorem pRbSerial0Hi : Statement (.pRbSerial0Hi) := of_word (k := 0) 0x00A1000E#32 (by decide)
theorem pWbSerial0Hi (v : Byte) : Statement (.pWbSerial0Hi v) := of_word (k := 0) 0x08A1000E#32 (by decide)
theorem pRbData1 : Statement (.pRbData1) := of_word (k := 0) 0x00A10005#32 (by decide)
theorem pWbData1 (v : Byte) : Statement (.pWbData1 v) := of_word (k := 0) 0x08A10005#32 (by decide)
theorem pRwData1 : Statement (.pRwData1) := of_word (k := 0) 0x04A10004#32 (by decide)
theorem pWwData1 (v : Half) : Statement (.pWwData1 v) := of_word (k := 0) 0x0CA10004#32 (by decide)
theorem pRbData1Hi : Statement (.pRbData1Hi) := of_word (k := 0) 0x00A10004#32 (by decide)
theorem pWbData1Hi (v : Byte) : Statement (.pWbData1Hi v) := of_word (k := 0) 0x08A10004#32 (by decide)
theorem pRbCtrl1 : Statement (.pRbCtrl1) := of_word (k := 0) 0x00A1000B#32 (by decide)
theorem pWbCtrl1 (v : Byte) : Statement (.pWbCtrl1 v) := of_word (k := 0) 0x08A1000B#32 (by decide)
theorem pRwCtrl1 : Statement (.pRwCtrl1) := of_word (k := 0) 0x04A1000A#32 (by decide)
theorem pWwCtrl1 (v : Half) : Statement (.pWwCtrl1 v) := of_word (k := 0) 0x0CA1000A#32 (by decide)
theorem pRbCtrl1Hi : Statement (.pRbCtrl1Hi) := of_word (k := 0) 0x00A1000A#32 (by decide)
theorem pWbCtrl1Hi (v : Byte) : Statement (.pWbCtrl1Hi v) := of_word (k := 0) 0x08A1000A#32 (by decide)
theorem pRbSerial1 : Statement (.pRbSerial1) := of_word (k := 0) 0x00A10015#32 (by decide)
theorem pWbSerial1 (v : Byte) : Statement (.pWbSerial1 v) := of_word (k := 0) 0x08A10015#32 (by decide)
theorem pRwSerial1 : Statement (.pRwSerial1) := of_word (k := 0) 0x04A10014#32 (by decide)
theorem pWwSerial1 (v : Half) : Statement (.pWwSerial1 v) := of_word (k := 0) 0x0CA10014#32 (by decide)
theorem pRbSerial1Hi : Statement (.pRbSerial1Hi) := of_word (k := 0) 0x00A10014#32 (by decide)
theorem pWbSerial1Hi (v : Byte) : Statement (.pWbSerial1Hi v) := of_word (k := 0) 0x08A10014#32 (by decide)
theorem pRbData2 : Statement (.pRbData2) := of_word (k := 0) 0x00A10007#32 (by decide)
theorem pWbData2 (v : Byte) : Statement (.pWbData2 v) := of_word (k := 0) 0x08A10007#32 (by decide)
theorem pRwData2 : Statement (.pRwData2) := of_word (k := 0) 0x04A10006#32 (by decide)
theorem pWwData2 (v : Half) : Statement (.pWwData2 v) := of_word (k := 0) 0x0CA10006#32 (by decide)
theorem pRbData2Hi : Statement (.pRbData2Hi) := of_word (k := 0) 0x00A10006#32 (by decide)
theorem pWbData2Hi (v : Byte) : Statement (.pWbData2Hi v) := of_word (k := 0) 0x08A10006#32 (by decide)
theorem pRbCtrl2 : Statement (.pRbCtrl2) := of_word (k := 0) 0x00A1000D#32 (by decide)
theorem pWbCtrl2 (v : Byte) : Statement (.pWbCtrl2 v) := of_word (k := 0) 0x08A1000D#32 (by decide)
theorem pRwCtrl2 : Statement (.pRwCtrl2) := of_word (k := 0) 0x04A1000C#32 (by decide)
theorem pWwCtrl2 (v : Half) : Statement (.pWwCtrl2 v) := of_word (k := 0) 0x0CA1000C#32 (by decide)
theorem pRbCtrl2Hi : Statement (.pRbCtrl2Hi) := of_word (k := 0) 0x00A1000C#32 (by decide)
theorem pWbCtrl2Hi (v : Byte) : Statement (.pWbCtrl2Hi v) := of_word (k := 0) 0x08A1000C#32 (by decide)
theorem pRbSerial2 : Statement (.pRbSerial2) := of_word (k := 0) 0x00A1001B#32 (by decide)
theorem pWbSerial2 (v : Byte) : Statement (.pWbSerial2 v) := of_word (k := 0) 0x08A1001B#32 (by decide)
theorem pRwSerial2 : Statement (.pRwSerial2) := of_word (k := 0) 0x04A1001A#32 (by decide)
theorem pWwSerial2 (v : Half) : Statement (.pWwSerial2 v) := of_word (k := 0) 0x0CA1001A#32 (by decide)
theorem pRbSerial2Hi : Statement (.pRbSerial2Hi) := of_word (k := 0) 0x00A1001A#32 (by decide)
theorem pWbSerial2Hi (v : Byte) : Statement (.pWbSerial2Hi v) := of_word (k := 0) 0x08A1001A#32 (by decide)
theorem pRbBusreq : Statement (.pRbBusreq) := of_word (k := 0) 0x00A11100#32 (by decide)
theorem pWbBusreq (v : Byte) : Statement (.pWbBusreq v) := of_word (k := 0) 0x08A11100#32 (by decide)
theorem pRwBusreq : Statement (.pRwBusreq) := of_word (k := 0) 0x04A11100#32 (by decide)
theorem pWwBusreq (v : Half) : Statement (.pWwBusreq v) := of_word (k := 0) 0x0CA11100#32 (by decide)
theorem pRbBusreqLo : Statement (.pRbBusreqLo) := of_word (k := 0) 0x00A11101#32 (by decide)
theorem pWbBusreqLo (v : Byte) : Statement (.pWbBusreqLo v) := of_word (k := 0) 0x08A11101#32 (by decide)
theorem pRbReset : Statement (.pRbReset) := of_word (k := 0) 0x00A11200#32 (by decide)
theorem pWbReset (v : Byte) : Statement (.pWbReset v) := of_word (k := 0) 0x08A11200#32 (by decide)
theorem pRwReset : Statement (.pRwReset) := of_word (k := 0) 0x04A11200#32 (by decide)
theorem pWwReset (v : Half) : Statement (.pWwReset v) := of_word (k := 0) 0x0CA11200#32 (by decide)
theorem pRbResetLo : Statement (.pRbResetLo) := of_word (k := 0) 0x00A11201#32 (by decide)
theorem pWbResetLo (v : Byte) : Statement (.pWbResetLo v) := of_word (k := 0) 0x08A11201#32 (by decide)
theorem pRbSram (off : BitVec 14) : Statement (.pRbSram off) := kind_of_append (m := 0) (d := 14) 0x280#18 off rfl (by decide)
theorem pWbSram (off : BitVec 14) (v : Byte) : Statement (.pWbSram off v) := kind_of_append (m := 0) (d := 14) 0x2280#18 off rfl (by decide)
theorem pRwSram (off : BitVec 14) : Statement (.pRwSram off) := kind_of_append (m := 0) (d := 14) 0x1280#18 off rfl (by decide)
theorem pWwSram (off : BitVec 14) (v : Half) : Statement (.pWwSram off v) := kind_of_append (m := 0) (d := 14) 0x3280#18 off rfl (by decide)
theorem pRbSnd (off : BitVec 13) : Statement (.pRbSnd off) := kind_of_append (m := 0) (d := 15) 0x502#19 off rfl (by decide)
theorem pWbSnd (off : BitVec 13) (v : Byte) : Statement (.pWbSnd off v) := kind_of_append (m := 0) (d := 15) 0x4502#19 off rfl (by decide)
theorem pRwSnd (off : BitVec 13) : Statement (.pRwSnd off) := kind_of_append (m := 0) (d := 15) 0x2502#19 off rfl (by decide)
theorem pWwSnd (off : BitVec 13) (v : Half) : Statement (.pWwSnd off v) := kind_of_append (m := 0) (d := 15) 0x6502#19 off rfl (by decide)
theorem sRbSram (off : BitVec 14) : Statement (.sRbSram off) := kind_of_append (m := 1) (d := 14) 0x4000#18 off rfl (by decide)
theorem sWbSram (off : BitVec 14) (v : Byte) : Statement (.sWbSram off v) := kind_of_append (m := 1) (d := 14) 0x6000#18 off rfl (by decide)
theorem sRbSnd (off : BitVec 13) : Statement (.sRbSnd off) := kind_of_append (m := 1) (d := 15) 0x8002#19 off rfl (by decide)
theorem sWbSnd (off : BitVec 13) (v : Byte) : Statement (.sWbSnd off v) := kind_of_append (m := 1) (d := 15) 0xC002#19 off rfl (by decide)
theorem sRbBank (off : BitVec 8) : Statement (.sRbBank off) := kind_of_append (m := 1) (d := 20) 0x100060#24 off rfl (by decide)
theorem sWbBank (off : BitVec 8) (v : Byte) : Statement (.sWbBank off v) := kind_of_append (m := 1) (d := 20) 0x180060#24 off rfl (by decide)
theorem sRbVdp (off : BitVec 5) : Statement (.sRbVdp off) := kind_of_append (m := 1) (d := 23) 0x8003F8#27 off rfl (by decide)
theorem sWbVdp (off : BitVec 5) (v : Byte) : Statement (.sWbVdp off v) := kind_of_append (m := 1) (d := 23) 0xC003F8#27 off rfl (by decide)
theorem sRbWin (off : BitVec 15) : Statement (.sRbWin off) := kind_of_append (m := 1) (d := 13) 0x2001#17 off rfl (by decide)
theorem sWbWin (off : BitVec 15) (v : Byte) : Statement (.sWbWin off v) := kind_of_append (m := 1) (d := 13) 0x3001#17 off rfl (by decide)
theorem sBegin : Statement (.sBegin) := of_word (k := 2) 0x20000000#32 (by decide)
theorem sEnd : Statement (.sEnd) := of_word (k := 3) 0x30000000#32 (by decide)
theorem arbAck : Statement (.arbAck) := of_word (k := 4) 0x40000000#32 (by decide)
theorem tAdv (dt : Nat) : Statement (.tAdv dt) := of_word (k := 5) 0x50000000#32 (by decide)
theorem tExpire (p : Nat) (g : Nat) : Statement (.tExpire p g) := of_word (k := 6) 0x60000000#32 (by decide)
theorem hReset : Statement (.hReset) := of_word (k := 7) 0x70000000#32 (by decide)
theorem hPoweron : Statement (.hPoweron) := of_word (k := 8) 0x80000000#32 (by decide)
theorem iPadset (p : Nat) (pad : Pad) : Statement (.iPadset p pad) := of_word (k := 9) 0x90000000#32 (by decide)
theorem hSave : Statement (.hSave) := of_word (k := 10) 0xA0000000#32 (by decide)
theorem hRestore (r : Block) : Statement (.hRestore r) := of_word (k := 11) 0xB0000000#32 (by decide)

end Sys2Proof.Laws.AgentKind
end

