-- ==== Sys2Proof/Laws/Trace.lean ====
section
/-! SUPPORT. Traces and pseudo-operations: what one line does, lines one after another, one bit of BANK.SET, and one
poll of BUSREQ.WAIT. -/

namespace Sys2Proof.Machine

/-- A line runs the instruction its request decodes to. -/
theorem runLine_eq {line : TraceLine} {i : Instr} (h : decode line.request = .ok i) (s : State) :
    runLine line s = exec i (beginOperation s.schedule s) := by
  simp [runLine, step, h, beginOperation]

/-- Lines one after another, the first part giving a next state. -/
theorem runLines_append {l l' : List TraceLine} {s t : State} (h : runLines l s = .next t) :
    runLines (l ++ l') s = runLines l' t := by
  induction l generalizing s with
  | nil => cases h; rfl
  | cons a l ih =>
    simp only [runLines, List.cons_append] at h ⊢
    split at h
    · exact ih h
    · cases h
    · cases h

/-- The state after one bit of BANK.SET: the register has shifted, no instruction is in flight, nothing is returned. -/
def afterBankSetBit (bit : Bool) (s : State) : State :=
  { s with blk := bankShift bit { s.blk with secBusy := false }, result := .none }

/-- One bit of BANK.SET runs where the secondary may begin, and leaves it able to begin again (R78, R170). -/
theorem runLines_bankSetBit (bit : Bool) {s : State} (h : secMayBegin s.blk = true) :
    runLines (bankSetBit bit) s = .next (afterBankSetBit bit s) ∧ secMayBegin (afterBankSetBit bit s).blk = true := by
  have hd : decode (TraceLine.sWb 0x6000 (BitVec.setWidth 8 (BitVec.ofBool bit))).request =
      .ok (.sWbBank 0 (if bit then 1 else 0)) := by cases bit <;> rfl
  have hb : controlBitOfByte (if bit then 1 else 0) = bit := by cases bit <;> rfl
  refine ⟨?_, by simp_all [afterBankSetBit, secMayBegin]⟩
  have h1 : runLine .sBegin s =
      .next { s with blk := { s.blk with secBusy := true }, result := .none } := by
    rw [runLine_eq (i := .sBegin) rfl]
    simp [exec, execSBegin, h, updateBlock, setBlk, beginOperation]
  simp only [bankSetBit, runLines, h1, runLine_eq hd, runLine_eq (line := .sEnd) (i := .sEnd) rfl, exec, execSWbBank,
    duringInstruction, beginOperation, updateBlock, hb, execSEnd, if_true, setBlk, bankShift, afterBankSetBit]

/-- Bit 8 of a bus-status word is the negation of the grant, whatever is drawn round it (R166). -/
theorem statusWord_bit8 (d : BitVec 7) (a : Bool) (e : Byte) : (lanes (d ++ grantBit a) e).getLsbD 8 = !a := by
  have h : ∀ (d : BitVec 7) (a : Bool), (d ++ grantBit a : BitVec 8).getLsbD 0 = !a := by decide
  rw [lanes, BitVec.getLsbD_append, ← h d a]
  rfl

/-- The status word of a bus-status read shows granted exactly when the bus is granted (R166). -/
theorem showsGranted_status (d : BitVec 7) (a : Bool) (e : Byte) :
    showsGranted (.word (lanes (d ++ grantBit a) e)) = a := by
  rw [showsGranted, statusWord_bit8, Bool.not_not]

/-- The state after one poll of the bus status. -/
def afterPoll (s : State) : State :=
  setResult (.word (lanes (Config.draw7 s.draws ++ grantBit s.blk.busAck) (Config.draw8 s.draws)))
    (tickDraws (beginOperation s.schedule s))

/-- One round of BUSREQ.WAIT: the group's operations, the poll, and the choice its result makes (R78). -/
theorem repeatUntilGranted_cons {group : List TraceLine} {groups : List (List TraceLine)} {s t : State}
    (h : runLines group s = .next t) :
    repeatUntilGranted (.pRw 0xA11100) (group :: groups) s =
      if t.blk.busAck then .done (afterPoll t) groups
      else repeatUntilGranted (.pRw 0xA11100) groups (afterPoll t) := by
  have hp : runLines [TraceLine.pRw 0xA11100] t = .next (afterPoll t) := by
    simp only [runLines, runLine_eq (line := .pRw 0xA11100) (i := .pRwBusreq) rfl]
    rfl
  have hr : showsGranted (afterPoll t).result = t.blk.busAck := showsGranted_status _ _ _
  simp only [repeatUntilGranted, runLines_append h, hp, hr]

end Sys2Proof.Machine
end

