-- ==== Sys2Proof/Tests/Slice0.lean ====
section
/-! SUPPORT. The model's own tests: ill-formed terms, the decoding of a word per instruction written out from
30_encoding.md R61 and R64, the vectors of 95_test_vectors.md, and for every obligation with hypotheses a state and
operands that meet them. T_TIMEOUT is opaque; a vector that needs its number passes 10 to the shared operation. -/

namespace Sys2Proof.Tests

open Sys2Proof.Machine

/-! ### Well-formedness: an ill-formed term for each check -/

/-- The record of power-on with the given SharedRAM cells. -/
def recordWith (m : Memory) : Block := { Block.reset with sram := m }

theorem test_wf_odd_word_sram_read : (Instr.pRwSram 0x0001).wellFormed = false := by decide

theorem test_wf_odd_word_sram_write : (Instr.pWwSram 0x3FFF 0).wellFormed = false := by decide

theorem test_wf_odd_word_sound_read : (Instr.pRwSnd 0x0003).wellFormed = false := by decide

theorem test_wf_odd_word_sound_write : (Instr.pWwSnd 0x1FFF 0).wellFormed = false := by decide

theorem test_wf_bad_port_callback : (Instr.tExpire 3 0).wellFormed = false := by decide

theorem test_wf_bad_port_snapshot : (Instr.iPadset 3 Pad.released).wellFormed = false := by decide

/-- Indices that fall, that repeat and that leave SharedRAM are no canonical form. -/
theorem test_wf_record_memory :
    (Instr.hRestore (recordWith [(1, 0), (0, 0)])).wellFormed = false ∧
    (Instr.hRestore (recordWith [(1, 0), (1, 0)])).wellFormed = false ∧
    (Instr.hRestore (recordWith [(0x2000, 0)])).wellFormed = false ∧
    (Instr.hRestore (recordWith [(0, 7), (0x1FFF, 9)])).wellFormed = true := by decide

/-! ### Decoding: every constructor by a word of R61 and R64 -/

/-- DATA0 is I/O index 1: the register at 0xA10003, its word and high lane at 0xA10002 (R64). -/
theorem test_decode_data0 :
    decodeTableWord 32 0x00A10003 = some .pRbData0 ∧
    decodeTableWord 32 0x08A10003 = some (.pWbData0 0) ∧
    decodeTableWord 32 0x04A10002 = some .pRwData0 ∧
    decodeTableWord 32 0x0CA10002 = some (.pWwData0 0) ∧
    decodeTableWord 32 0x00A10002 = some .pRbData0Hi ∧
    decodeTableWord 32 0x08A10002 = some (.pWbData0Hi 0) := by
  decide

/-- CTRL0 is I/O index 4: the register at 0xA10009, its word and high lane at 0xA10008 (R64). -/
theorem test_decode_ctrl0 :
    decodeTableWord 32 0x00A10009 = some .pRbCtrl0 ∧
    decodeTableWord 32 0x08A10009 = some (.pWbCtrl0 0) ∧
    decodeTableWord 32 0x04A10008 = some .pRwCtrl0 ∧
    decodeTableWord 32 0x0CA10008 = some (.pWwCtrl0 0) ∧
    decodeTableWord 32 0x00A10008 = some .pRbCtrl0Hi ∧
    decodeTableWord 32 0x08A10008 = some (.pWbCtrl0Hi 0) := by
  decide

/-- SERIAL0 is I/O index 7: the register at 0xA1000F, its word and high lane at 0xA1000E (R64). -/
theorem test_decode_serial0 :
    decodeTableWord 32 0x00A1000F = some .pRbSerial0 ∧
    decodeTableWord 32 0x08A1000F = some (.pWbSerial0 0) ∧
    decodeTableWord 32 0x04A1000E = some .pRwSerial0 ∧
    decodeTableWord 32 0x0CA1000E = some (.pWwSerial0 0) ∧
    decodeTableWord 32 0x00A1000E = some .pRbSerial0Hi ∧
    decodeTableWord 32 0x08A1000E = some (.pWbSerial0Hi 0) := by
  decide

/-- DATA1 is I/O index 2: the register at 0xA10005, its word and high lane at 0xA10004 (R64). -/
theorem test_decode_data1 :
    decodeTableWord 32 0x00A10005 = some .pRbData1 ∧
    decodeTableWord 32 0x08A10005 = some (.pWbData1 0) ∧
    decodeTableWord 32 0x04A10004 = some .pRwData1 ∧
    decodeTableWord 32 0x0CA10004 = some (.pWwData1 0) ∧
    decodeTableWord 32 0x00A10004 = some .pRbData1Hi ∧
    decodeTableWord 32 0x08A10004 = some (.pWbData1Hi 0) := by
  decide

/-- CTRL1 is I/O index 5: the register at 0xA1000B, its word and high lane at 0xA1000A (R64). -/
theorem test_decode_ctrl1 :
    decodeTableWord 32 0x00A1000B = some .pRbCtrl1 ∧
    decodeTableWord 32 0x08A1000B = some (.pWbCtrl1 0) ∧
    decodeTableWord 32 0x04A1000A = some .pRwCtrl1 ∧
    decodeTableWord 32 0x0CA1000A = some (.pWwCtrl1 0) ∧
    decodeTableWord 32 0x00A1000A = some .pRbCtrl1Hi ∧
    decodeTableWord 32 0x08A1000A = some (.pWbCtrl1Hi 0) := by
  decide

/-- SERIAL1 is I/O index 10: the register at 0xA10015, its word and high lane at 0xA10014 (R64). -/
theorem test_decode_serial1 :
    decodeTableWord 32 0x00A10015 = some .pRbSerial1 ∧
    decodeTableWord 32 0x08A10015 = some (.pWbSerial1 0) ∧
    decodeTableWord 32 0x04A10014 = some .pRwSerial1 ∧
    decodeTableWord 32 0x0CA10014 = some (.pWwSerial1 0) ∧
    decodeTableWord 32 0x00A10014 = some .pRbSerial1Hi ∧
    decodeTableWord 32 0x08A10014 = some (.pWbSerial1Hi 0) := by
  decide

/-- DATA2 is I/O index 3: the register at 0xA10007, its word and high lane at 0xA10006 (R64). -/
theorem test_decode_data2 :
    decodeTableWord 32 0x00A10007 = some .pRbData2 ∧
    decodeTableWord 32 0x08A10007 = some (.pWbData2 0) ∧
    decodeTableWord 32 0x04A10006 = some .pRwData2 ∧
    decodeTableWord 32 0x0CA10006 = some (.pWwData2 0) ∧
    decodeTableWord 32 0x00A10006 = some .pRbData2Hi ∧
    decodeTableWord 32 0x08A10006 = some (.pWbData2Hi 0) := by
  decide

/-- CTRL2 is I/O index 6: the register at 0xA1000D, its word and high lane at 0xA1000C (R64). -/
theorem test_decode_ctrl2 :
    decodeTableWord 32 0x00A1000D = some .pRbCtrl2 ∧
    decodeTableWord 32 0x08A1000D = some (.pWbCtrl2 0) ∧
    decodeTableWord 32 0x04A1000C = some .pRwCtrl2 ∧
    decodeTableWord 32 0x0CA1000C = some (.pWwCtrl2 0) ∧
    decodeTableWord 32 0x00A1000C = some .pRbCtrl2Hi ∧
    decodeTableWord 32 0x08A1000C = some (.pWbCtrl2Hi 0) := by
  decide

/-- SERIAL2 is I/O index 13: the register at 0xA1001B, its word and high lane at 0xA1001A (R64). -/
theorem test_decode_serial2 :
    decodeTableWord 32 0x00A1001B = some .pRbSerial2 ∧
    decodeTableWord 32 0x08A1001B = some (.pWbSerial2 0) ∧
    decodeTableWord 32 0x04A1001A = some .pRwSerial2 ∧
    decodeTableWord 32 0x0CA1001A = some (.pWwSerial2 0) ∧
    decodeTableWord 32 0x00A1001A = some .pRbSerial2Hi ∧
    decodeTableWord 32 0x08A1001A = some (.pWbSerial2Hi 0) := by
  decide

/-- The bus-request register at 0xA11100 and its odd lane (R41, R72, R73). -/
theorem test_decode_busreq :
    decodeTableWord 32 0x00A11100 = some .pRbBusreq ∧
    decodeTableWord 32 0x08A11100 = some (.pWbBusreq 0) ∧
    decodeTableWord 32 0x04A11100 = some .pRwBusreq ∧
    decodeTableWord 32 0x0CA11100 = some (.pWwBusreq 0) ∧
    decodeTableWord 32 0x00A11101 = some .pRbBusreqLo ∧
    decodeTableWord 32 0x08A11101 = some (.pWbBusreqLo 0) := by
  decide

/-- The reset register at 0xA11200 and its odd lane (R41, R72, R73). -/
theorem test_decode_reset :
    decodeTableWord 32 0x00A11200 = some .pRbReset ∧
    decodeTableWord 32 0x08A11200 = some (.pWbReset 0) ∧
    decodeTableWord 32 0x04A11200 = some .pRwReset ∧
    decodeTableWord 32 0x0CA11200 = some (.pWwReset 0) ∧
    decodeTableWord 32 0x00A11201 = some .pRbResetLo ∧
    decodeTableWord 32 0x08A11201 = some (.pWbResetLo 0) := by
  decide

/-- SharedRAM 0xA00000 to 0xA03FFF and the sound device 0xA04000 to 0xA05FFF, at edges of the windows (R41). -/
theorem test_decode_bridge :
    decodeTableWord 32 0x00A03FFF = some (.pRbSram 0x3FFF) ∧
    decodeTableWord 32 0x08A02001 = some (.pWbSram 0x2001 0) ∧
    decodeTableWord 32 0x04A03FFE = some (.pRwSram 0x3FFE) ∧
    decodeTableWord 32 0x0CA00010 = some (.pWwSram 0x0010 0) ∧
    decodeTableWord 32 0x00A05FFF = some (.pRbSnd 0x1FFF) ∧
    decodeTableWord 32 0x08A04001 = some (.pWbSnd 1 0) ∧
    decodeTableWord 32 0x04A05FFE = some (.pRwSnd 0x1FFE) ∧
    decodeTableWord 32 0x0CA04002 = some (.pWwSnd 2 0) := by
  decide

/-- The secondary windows, at their edges (R42). -/
theorem test_decode_secondary :
    decodeTableWord 32 0x10003FFF = some (.sRbSram 0x3FFF) ∧
    decodeTableWord 32 0x18001000 = some (.sWbSram 0x1000 0) ∧
    decodeTableWord 32 0x10005FFF = some (.sRbSnd 0x1FFF) ∧
    decodeTableWord 32 0x18004002 = some (.sWbSnd 2 0) ∧
    decodeTableWord 32 0x10006000 = some (.sRbBank 0) ∧
    decodeTableWord 32 0x180060FF = some (.sWbBank 0xFF 0) ∧
    decodeTableWord 32 0x10007F05 = some (.sRbVdp 5) ∧
    decodeTableWord 32 0x18007F1F = some (.sWbVdp 0x1F 0) ∧
    decodeTableWord 32 0x10008123 = some (.sRbWin 0x0123) ∧
    decodeTableWord 32 0x1800FFFF = some (.sWbWin 0x7FFF 0) := by
  decide

/-- The events: KIND alone (R60, R61). -/
theorem test_decode_events :
    decodeTableWord 32 0x20000000 = some .sBegin ∧
    decodeTableWord 32 0x30000000 = some .sEnd ∧
    decodeTableWord 32 0x40000000 = some .arbAck ∧
    decodeTableWord 32 0x50000000 = some (.tAdv 0) ∧
    decodeTableWord 32 0x60000000 = some (.tExpire 0 0) ∧
    decodeTableWord 32 0x70000000 = some .hReset ∧
    decodeTableWord 32 0x80000000 = some .hPoweron ∧
    decodeTableWord 32 0x90000000 = some (.iPadset 0 Pad.released) ∧
    decodeTableWord 32 0xA0000000 = some .hSave ∧
    decodeTableWord 32 0xB0000000 = some (.hRestore zeroBlock) := by
  decide

/-- Operands beside the word reach the instruction (R62): a byte write takes `v[7:0]`. -/
theorem test_decode_operands :
    decode (withData 0x08A10003#32 0xAB40#16) = .ok (.pWbData0 0x40) ∧
    decode (withData 0x0CA10008#32 0xAB40#16) = .ok (.pWwCtrl0 0xAB40) ∧
    decode ⟨0x50000000#32, { Operands.zero with dt := 9 }⟩ = .ok (.tAdv 9) ∧
    decode ⟨0x60000000#32, { Operands.zero with port := 2, gen := 4 }⟩ = .ok (.tExpire 2 4) ∧
    decode ⟨0x90000000#32, { Operands.zero with port := 1, pad := { Pad.released with a := true } }⟩ =
      .ok (.iPadset 1 { Pad.released with a := true }) ∧
    decode ⟨0xB0000000#32, { Operands.zero with record := Block.reset }⟩ = .ok (.hRestore Block.reset) :=
  ⟨rfl, rfl, rfl, rfl, rfl, rfl⟩

/-- V-E6 to V-E14: the refused words and their reasons. -/
theorem test_decode_refused :
    decode (bare 0x00A10011#32) = .error (.notInBlock 0xA10011) ∧
    decode (bare 0x04A10003#32) = .error (.misaligned 0xA10003) ∧
    decode (bare 0x14000000#32) = .error .wrongWidth ∧
    decode (bare 0xC0000000#32) = .error (.malformed 0xC0000000) ∧
    decode (bare 0x21000000#32) = .error (.malformed 0x21000000) ∧
    decode (bare 0x10010000#32) = .error (.malformed 0x10010000) ∧
    decode (bare 0x00A10001#32) = .error (.notInBlock 0xA10001) ∧
    decode (bare 0x10006100#32) = .error (.notInBlock 0x6100) ∧
    decode (bare 0x00A06000#32) = .error (.notInBlock 0xA06000) :=
  ⟨rfl, rfl, rfl, rfl, rfl, rfl, rfl, rfl, rfl⟩

/-! ### Small states -/

/-- The power-on state with other arbiter bits: IS_RESET, BUS_REQ, BUS_ACK, SEC_BUSY. -/
def arb (r q a y : Bool) : State :=
  { State.reset with blk := { Block.reset with isReset := r, busReq := q, busAck := a, secBusy := y } }

/-- The state with written SharedRAM cells. -/
def withSram (m : Memory) (s : State) : State := { s with blk := { s.blk with sram := m } }

/-- The state with another bank register. -/
def withBank (sr : BitVec 9) (count : Nat) (base : BitVec 24) (s : State) : State :=
  { s with blk := { s.blk with bankSr := sr, bankCount := count, bankBase := base } }

/-- The power-on state with port 0 replaced and NOW set. -/
def withPort0 (q : Port) (now : Nat) : State :=
  { State.reset with blk := { Block.reset with port0 := q, now := now } }

/-- "std port 0" of 95_test_vectors.md. -/
def stdPort : Port := { Port.reset with data := 0x40, ctrl := 0x40 }

/-- An armed port at stage 2 with deadline 10 and generation 5. -/
def armedPort : Port := { stdPort with stage := 2, armed := true, deadline := 10, tmrGen := 5, gen := 5 }

/-- The state's next request is the word. -/
def fetching (w : Nat) : State := State.reset.withFetchWord 32 w

/-- A pad with one button pressed. -/
def padA : Pad := { Pad.released with a := true }

/-- A pad with A and X pressed. -/
def padAX : Pad := { Pad.released with a := true, x := true }

/-- A pad with every button pressed. -/
def padAll : Pad := ⟨true, true, true, true, true, true, true, true, true, true, true, true⟩

/-- Successive data writes at NOW 0 with T_TIMEOUT 10. -/
def afterWrites (q : Port) (vs : List Byte) : Port := vs.foldl (fun q v => writeData 10 0 v q) q

/-- The data register's byte after each of the transitions 0 to `vs.length`. -/
def readsAfter (kind : PadKind) (pad : Pad) (vs : List Byte) : List Byte :=
  (List.range (vs.length + 1)).map (fun k => portRead kind pad (afterWrites stdPort (vs.take k)))

/-! ### Controller ports -/

/-- S-SEQ: the six-button sequence. -/
theorem test_six_button_sequence :
    readsAfter .pad6 padAX [0x00, 0x40, 0x00, 0x40, 0x00] = [0xEF, 0xBF, 0xEF, 0xB0, 0xEB, 0xBF] := by decide

/-- S-TOGGLE: the first write of 0x40 is no transition. -/
theorem test_toggle_scenario :
    readsAfter .pad6 padA [0x40, 0x00, 0x40, 0x00, 0x40, 0x00] =
      [0xEF, 0xEF, 0xBF, 0xEF, 0xB0, 0xEF, 0xBF] := by decide

/-- S-PERIOD4. -/
theorem test_period_four :
    (readsAfter .pad6 padA [0x00, 0x40, 0x00, 0x40, 0x00, 0x40, 0x00, 0x40]).tail =
      [0xBF, 0xEF, 0xB0, 0xEF, 0xBF, 0xEF, 0xB0, 0xEF] := by decide

/-- V-P3. -/
theorem test_nothing_pressed :
    readsAfter .pad6 Pad.released [0x00, 0x40, 0x00, 0x40] = [0xFF, 0xBF, 0xFF, 0xB0, 0xFF] := by decide

/-- V-P4. -/
theorem test_everything_pressed :
    readsAfter .pad6 padAll [0x00, 0x40, 0x00, 0x40] = [0xC0, 0x80, 0xC0, 0x80, 0xC0] := by decide

/-- V-P5: a three-button pad never shows the stage. -/
theorem test_three_button_pad :
    readsAfter .pad3 padAX [0x00, 0x40, 0x00, 0x40] = [0xEF, 0xBF, 0xEF, 0xBF, 0xEF] := by decide

/-- V-P1 and V-P2: all inputs, all outputs. -/
theorem test_directions :
    portRead .pad6 padA Port.reset = 0xEF ∧
    portRead .pad6 padAll { Port.reset with ctrl := 0xFF, data := 0x5A } = 0x5A := by decide

/-- V-P14: the sentinel follows the snapshot at once. -/
theorem test_snapshot_at_the_sentinel :
    portRead .pad6 { Pad.released with b := true, x := true } (afterWrites stdPort [0x00, 0x40, 0x00]) = 0xA0 := by
  decide

/-- V-P6 and V-P7: making the line an output moves it; so does the next data write. -/
theorem test_direction_change_is_a_transition :
    writeCtrl 10 0 0x40 Port.reset =
      { data := 0x00, ctrl := 0x40, serial := 0x00, sel := false, stage := 1, lastToggle := 0
        armed := true, deadline := 10, tmrGen := 1, gen := 1 } ∧
    (writeData 10 0 0x40 (writeCtrl 10 0 0x40 Port.reset)).stage = 2 ∧
    (writeData 10 0 0x40 (writeCtrl 10 0 0x40 Port.reset)).gen = 2 := by decide

/-- V-P8 and V-P9: a write that leaves bit 6 alone is no transition. -/
theorem test_same_level_is_no_transition :
    writeData 10 0 0x40 stdPort = stdPort ∧
    writeData 10 0 0x7F stdPort = { stdPort with data := 0x7F } ∧
    portRead .pad6 padA (writeData 10 0 0x7F stdPort) = 0xEF := by decide

/-- V-P10: giving the line up lets it rise. -/
theorem test_line_released :
    (writeCtrl 10 0 0x00 (writeData 10 0 0x00 stdPort)).stage = 2 ∧
    (writeCtrl 10 0 0x00 (writeData 10 0 0x00 stdPort)).sel = true := by decide

/-- V-P11: the high lane. -/
theorem test_high_lane :
    exec (.pWbData0Hi 0x00) (withPort0 stdPort 0) = .next (withPort0 stdPort 0) ∧
    ∃ t v, exec .pRbData0Hi (withPort0 stdPort 0) = .next t ∧ t.result = .byte v ∧
      t.blk = (withPort0 stdPort 0).blk :=
  ⟨rfl, _, _, rfl, rfl, rfl⟩

/-- V-P12: a word write takes the low lane. -/
theorem test_word_write_low_lane :
    ∃ t, exec (.pWwData0 0xFF00) (withPort0 stdPort 0) = .next t ∧ t.blk.port0.data = 0x00 ∧
      t.blk.port0.stage = 1 ∧ t.blk.port1 = Port.reset :=
  ⟨_, rfl, rfl, rfl, rfl⟩

/-- V-P13: the serial register is storage. -/
theorem test_serial :
    ∃ t, exec (.pWwSerial1 0x1234) State.reset = .next t ∧ t.blk.port1 = { Port.reset with serial := 0x34 } ∧
      exec .pRbSerial1 t = .next { t with result := .byte 0x34 } :=
  ⟨_, rfl, rfl, rfl⟩

/-- V-P15: a transition of port 1 leaves port 0. -/
theorem test_other_port :
    ∃ t, exec (.pWbCtrl1 0x40) State.reset = .next t ∧ t.blk.port0 = Port.reset ∧ t.blk.port1.stage = 1 :=
  ⟨_, rfl, rfl, rfl⟩

/-! ### The port timer -/

/-- V-T1: the deadline is reached. -/
theorem test_advance_to_the_deadline :
    ∃ t, exec (.tAdv 6) (withPort0 armedPort 4) = .next t ∧ t.blk.now = 10 ∧
      t.blk.port0 = { armedPort with stage := 0, armed := false } :=
  ⟨_, rfl, rfl, rfl⟩

/-- V-T2: one tick short of it. -/
theorem test_advance_short_of_the_deadline :
    ∃ t, exec (.tAdv 5) (withPort0 armedPort 4) = .next t ∧ t.blk.now = 9 ∧ t.blk.port0 = armedPort :=
  ⟨_, rfl, rfl, rfl⟩

/-- V-T4 and V-T5: a stale generation, and a deadline that has not come. -/
theorem test_callback_ignored :
    exec (.tExpire 0 4) (withPort0 armedPort 4) = .next (withPort0 armedPort 4) ∧
    exec (.tExpire 0 5) (withPort0 armedPort 4) = .next (withPort0 armedPort 4) :=
  ⟨rfl, rfl⟩

/-- V-T6 and V-T9: a disarmed timer, and a port that does not exist. -/
theorem test_callback_disarmed_and_bad_port :
    exec (.tExpire 0 0) State.reset = .next State.reset ∧
    exec (.tExpire 3 0) State.reset = .refused (.badPort 3) :=
  ⟨rfl, rfl⟩

/-- V-T7: one advance fires two timers. -/
theorem test_two_timers_fire :
    let b := advanceTime 20
      { Block.reset with port0 := armedPort, port2 := { stdPort with stage := 1, armed := true, deadline := 15 } }
    b.port0.stage = 0 ∧ b.port2.stage = 0 ∧ b.port0.armed = false ∧ b.port2.armed = false := by decide

/-- V-T8: a second transition moves the deadline to 18, so NOW 13 fires nothing. -/
theorem test_rearm :
    (expireIfDue 13 (writeData 10 8 0x40 (writeData 10 0 0x00 stdPort))).stage = 2 ∧
    (writeData 10 8 0x40 (writeData 10 0 0x00 stdPort)).deadline = 18 := by decide

/-! ### The arbiter -/

/-- V-A1: held in reset. -/
theorem test_begin_held : exec .sBegin (arb true false false false) = .next (arb true false false false) := rfl

/-- The guard of S.BEGIN holds: the instruction is in flight (R162). -/
theorem test_begin : exec .sBegin (arb false false false false) = .next (arb false false false true) := rfl

/-- V-A2. -/
theorem test_reset_released : exec (.pWwReset 0x0100) (arb true false false false) =
    .next (arb false false false false) := rfl

/-- V-A3 and V-A10: reset asserted, also with an instruction in flight. -/
theorem test_reset_asserted :
    exec (.pWbReset 0x00) (arb false false false false) = .next (arb true false false false) ∧
    exec (.pWbReset 0x00) (arb false false false true) = .next (arb true false false true) ∧
    exec .sEnd (arb true false false true) = .next (arb true false false false) :=
  ⟨rfl, rfl, rfl⟩

/-- V-A4. -/
theorem test_bus_request : exec (.pWbBusreq 0x01) (arb false false false false) =
    .next (arb false true false false) := rfl

/-- V-A5 and V-A11: the grant, also while in reset. -/
theorem test_grant :
    exec .arbAck (arb false true false false) = .next (arb false true true false) ∧
    exec .arbAck (arb true true false false) = .next (arb true true true false) :=
  ⟨rfl, rfl⟩

/-- V-A8: no grant with an instruction in flight. -/
theorem test_grant_held :
    exec (.pWwBusreq 0x0100) (arb false false false true) = .next (arb false true false true) ∧
    exec .arbAck (arb false true false true) = .next (arb false true false true) :=
  ⟨rfl, rfl⟩

/-- V-A6 and V-A7: a release is immediate, granted or pending. -/
theorem test_release :
    exec (.pWwBusreq 0x0000) (arb false true true false) = .next (arb false false false false) ∧
    exec (.pWbBusreq 0x00) (arb false true false false) = .next (arb false false false false) :=
  ⟨rfl, rfl⟩

/-- V-A14: the word's control bit is bit 8. -/
theorem test_word_control_bit : exec (.pWwBusreq 0x00FF) (arb false true true false) =
    .next (arb false false false false) := rfl

/-- V-A4 and V-A5: the status bit of a byte read, whatever the draw. -/
theorem test_status_bit : ∀ d : BitVec 7,
    (d ++ grantBit false).getLsbD 0 = true ∧ (d ++ grantBit true).getLsbD 0 = false := by decide

/-- V-A9. -/
theorem test_end_without_begin : exec .sEnd (arb false false false false) = .refused .endWithoutBegin := rfl

/-- V-A12: the odd lane of the bus-request register. -/
theorem test_odd_lane :
    exec (.pWbBusreqLo 0x01) (arb false false false false) = .next (arb false false false false) ∧
    exec (.pWbResetLo 0x01) (arb true false false false) = .next (arb true false false false) :=
  ⟨rfl, rfl⟩

/-- V-A13: a reset-register read changes nothing of the block. -/
theorem test_reset_read :
    ∃ t v, exec .pRbReset (arb true false false false) = .next t ∧ t.result = .byte v ∧
      t.blk = (arb true false false false).blk :=
  ⟨_, _, rfl, rfl, rfl⟩

/-! ### The bank register -/

/-- The register after the written bits. -/
def afterShifts (sr : BitVec 9) (count : Nat) (bits : List Bool) : BitVec 9 × Nat × BitVec 24 :=
  let b := bits.foldl (fun b v => bankShift v b) { Block.reset with bankSr := sr, bankCount := count }
  (b.bankSr, b.bankCount, b.bankBase)

/-- V-B1 to V-B5. -/
theorem test_bank_shifts :
    afterShifts 0x000 0 [true] = (0x100, 1, 0x800000) ∧ afterShifts 0x000 0 [false] = (0x000, 1, 0x000000) ∧
    afterShifts 0x000 0 [true, true] = (0x180, 2, 0xC00000) ∧
    afterShifts 0x003 9 [false] = (0x001, 9, 0x008000) ∧ afterShifts 0x1FF 9 [true] = (0x1FF, 9, 0xFF8000) := by
  decide

/-- P3: BANK.SET 0x003, its last operation S.END. -/
theorem test_bank_set :
    ∃ t, Pseudo.run (.bankSet 0x003) [] (arb false false false false) = .done t [] ∧ t.blk.bankSr = 0x003 ∧
      t.blk.bankBase = 0x018000 ∧ t.blk.bankCount = 9 ∧ t.blk.secBusy = false :=
  ⟨_, rfl, rfl, rfl, rfl, rfl⟩

/-- S-SHIFT9. -/
theorem test_nine_shifts :
    afterShifts 0 0 [true, false, true, false, true, false, true, false, true] = (0x155, 9, 0xAA8000) ∧
    afterShifts 0 0 [true, true, false, false, false, false, false, false, false] = (0x003, 9, 0x018000) := by
  decide

/-- V-B7: any address of the window, and only bit 0 of the byte. -/
theorem test_bank_write :
    exec (.sWbBank 0xFF 0x01) (withBank 0x0AB 5 0x558000 (arb false false false true)) =
      .next (withBank 0x155 6 0xAA8000 (arb false false false true)) ∧
    exec (.sWbBank 0x00 0xFE) (arb false false false true) =
      .next (withBank 0x000 1 0x000000 (arb false false false true)) :=
  ⟨rfl, rfl⟩

/-- V-B6: a read shifts nothing. -/
theorem test_bank_read :
    ∃ t v, exec (.sRbBank 0) (withBank 0x0AB 5 0x558000 (arb false false false true)) = .next t ∧
      t.result = .byte v ∧ t.blk = (withBank 0x0AB 5 0x558000 (arb false false false true)).blk :=
  ⟨_, _, rfl, rfl, rfl⟩

/-- V-B8: neither reset touches the bank register. -/
theorem test_bank_survives_resets :
    ∃ t u, exec (.pWbReset 0x00) (withBank 0x0AB 5 0x558000 (arb false false false false)) = .next t ∧
      t.blk.bankSr = 0x0AB ∧
      exec .hReset (withBank 0x0AB 5 0x558000 (arb false false false false)) = .next u ∧
      u.blk.bankSr = 0x0AB ∧ u.blk.bankCount = 5 ∧ u.blk.bankBase = 0x558000 :=
  ⟨_, _, rfl, rfl, rfl, rfl, rfl, rfl⟩

/-! ### The bridge -/

/-- V-X1: the mirror, with no grant. -/
theorem test_sram_read :
    exec (.pRbSram 0x0001) (withSram [(1, 0x76)] State.reset) =
      .next { withSram [(1, 0x76)] State.reset with result := .byte 0x76 } ∧
    exec (.pRbSram 0x2001) (withSram [(1, 0x76)] State.reset) =
      .next { withSram [(1, 0x76)] State.reset with result := .byte 0x76 } :=
  ⟨rfl, rfl⟩

/-- V-X2: a word read duplicates the byte. -/
theorem test_sram_word_read :
    exec (.pRwSram 0) (withSram [(0, 0x12)] State.reset) =
      .next { withSram [(0, 0x12)] State.reset with result := .word 0x1212 } := rfl

/-- V-X3, V-X4 and V-X6: dropped without the grant: free, pending, in reset. -/
theorem test_sram_write_dropped :
    exec (.pWbSram 0 0xF3) (arb false false false false) = .next (arb false false false false) ∧
    exec (.pWbSram 0 0xF3) (arb false true false false) = .next (arb false true false false) ∧
    exec (.pWbSram 0 0xF3) (arb true false false false) = .next (arb true false false false) :=
  ⟨rfl, rfl, rfl⟩

/-- V-X5: a word write stores bits 15..8. -/
theorem test_sram_word_write :
    exec (.pWwSram 0x0010 0xABCD) (arb false true true false) =
      .next (withSram [(0x10, 0xAB)] (arb false true true false)) := rfl

/-- A granted byte write at the mirror, into the middle of the list (R191). -/
theorem test_sram_byte_write :
    exec (.pWbSram 0x2001 0x76) (withSram [(0, 1), (2, 3)] (arb false true true false)) =
      .next (withSram [(0, 1), (1, 0x76), (2, 3)] (arb false true true false)) := rfl

/-- V-X7: one device access, its byte in both lanes. -/
theorem test_sound_read :
    ∃ t b, exec (.pRwSnd 0x0000) (arb false true true false) = .next t ∧ t.result = .word (lanes b b) ∧
      t.external = [.soundRead 0 b] :=
  ⟨_, _, rfl, rfl, rfl⟩

/-- V-X8 and S-CONTEND: the contention value, no device access. -/
theorem test_sound_contention :
    exec (.pRbSnd 0) State.reset = .next { State.reset with result := .byte 0xFF } ∧
    exec (.pRwSnd 2) State.reset = .next { State.reset with result := .word 0xFFFF } ∧
    exec (.pWbSnd 0 0x22) State.reset = .next State.reset :=
  ⟨rfl, rfl, rfl⟩

/-- V-X9. -/
theorem test_sound_word_write :
    exec (.pWwSnd 0x0002 0x2B00) (arb false true true false) =
      .next { arb false true true false with external := [.soundWrite 2 0x2B] } := rfl

/-- V-X10 and V-X11. -/
theorem test_secondary_sram_read :
    exec (.sRbSram 0x2000) (withSram [(0, 0xF3)] (arb false false false true)) =
      .next { withSram [(0, 0xF3)] (arb false false false true) with result := .byte 0xF3 } ∧
    exec (.sRbSram 0x0000) (arb false false false false) = .refused .accessOutsideInstruction :=
  ⟨rfl, rfl⟩

/-- V-X18: a request during the instruction does not stop its write. -/
theorem test_secondary_sram_write :
    exec (.sWbSram 0x1000 0x42) (arb false true false true) =
      .next (withSram [(0x1000, 0x42)] (arb false true false true)) := rfl

/-- V-X12 and V-X15: where the window reaches primary memory. -/
theorem test_window_read :
    ∃ t b u c, exec (.sRbWin 0x0123) (withBank 0x003 9 0x018000 (arb false false false true)) = .next t ∧
      t.result = .byte b ∧ t.external = [.primaryRead 0x018123 b] ∧
      exec (.sRbWin 0x0000) (withBank 0x141 9 0xA08000 (arb false false false true)) = .next u ∧
      u.external = [.primaryRead 0xA08000 c] :=
  ⟨_, _, _, _, rfl, rfl, rfl, rfl, rfl⟩

/-- V-X13. -/
theorem test_window_write :
    exec (.sWbWin 0x4000 0x12) (withBank 0x1FE 9 0xFF0000 (arb false false false true)) =
      .next { withBank 0x1FE 9 0xFF0000 (arb false false false true) with
        external := [.primaryWrite 0xFF4000 0x12] } := rfl

/-- V-X14: the block's own window. -/
theorem test_window_into_self :
    exec (.sRbWin 0x0000) (withBank 0x140 9 0xA00000 (arb false false false true)) =
      .refused (.windowIntoSelf 0xA00000) := rfl

/-- V-X16: the lanes of the relay. -/
theorem test_vdp_lanes : vdpLane 4 0x3608 = 0x36 ∧ vdpLane 5 0x3608 = 0x08 ∧ vdpPort 5 = 4 := by decide

/-- V-X17. -/
theorem test_vdp_write :
    exec (.sWbVdp 0x11 0x9F) (arb false false false true) =
      .next { arb false false false true with external := [.vdpWrite 0x10 0x9F9F] } := rfl

/-- V-X19. -/
theorem test_secondary_sound :
    exec (.sWbSnd 2 0x30) (arb false false false true) =
      .next { arb false false false true with external := [.soundWrite 2 0x30] } ∧
    ∃ t b, exec (.sRbSnd 0) (arb false false false true) = .next t ∧ t.result = .byte b ∧
      t.external = [.soundRead 0 b] :=
  ⟨rfl, _, _, rfl, rfl, rfl⟩

/-! ### Reset and host -/

/-- V-H1: the power-on column of R29, from a state that differs. -/
theorem test_power_on :
    ∃ t, exec .hPoweron (withBank 0x0AB 5 0x558000 (arb false true true false)) = .next t ∧
      t.blk = { Block.reset with sramSeed := 1 } :=
  ⟨_, rfl, rfl⟩

/-- V-H2 and V-H3. -/
theorem test_hardware_reset :
    ∃ t, exec .hReset (withPort0 { armedPort with stage := 3, deadline := 17, tmrGen := 3, gen := 3 } 7) = .next t ∧
      t.blk.port0 = { Port.reset with gen := 4 } ∧ t.blk.now = 7 ∧ t.blk.isReset = true ∧
      exec (.tExpire 0 3) t = .next t :=
  ⟨_, rfl, rfl, rfl, rfl, rfl⟩

/-- V-H4. -/
theorem test_save_and_restore :
    ∃ t, exec .hSave (withPort0 stdPort 3) = .next t ∧ t.result = .saved (withPort0 stdPort 3).blk ∧
      exec (.hRestore (withPort0 stdPort 3).blk) State.reset = .next (withPort0 stdPort 3) :=
  ⟨_, rfl, rfl, rfl⟩

/-- V-H5. -/
theorem test_inconsistent_restore :
    exec (.hRestore (arb false false true false).blk) State.reset = .refused .inconsistentRestore := rfl

/-- A snapshot reaches its port alone (R115). -/
theorem test_snapshot :
    ∃ t, exec (.iPadset 1 padA) State.reset = .next t ∧ t.pad1 = padA ∧ t.pad0 = Pad.released ∧
      t.pad2 = Pad.released :=
  ⟨_, rfl, rfl, rfl, rfl⟩

/-- P1, step 1: a placed word runs as the first operation after power-on. -/
theorem test_step_runs_a_placed_word :
    ∃ t, step (fetching 0x00A10003) = .next t ∧ t.schedule = [] ∧
      t.result = .byte (portRead (Config.padKind 0) Pad.released Port.reset) :=
  ⟨_, rfl, rfl, rfl⟩

/-- The outputs after power-on (R28). -/
theorem test_outputs :
    outputs State.reset true false =
      { secResetAsserted := true, secMayBegin := false, thOut0 := true, thOut1 := true, thOut2 := true
        priIrq := true, secIrq := false } := by decide

/-! ### Witnesses: each obligation's hypotheses, met by a state and operands -/

theorem witness_DecodeEncodeAgree :
    (Instr.pWwSram 0x3FFE 0xABCD).wellFormed = true ∧ (Instr.tExpire 2 7).wellFormed = true ∧
    (Instr.hRestore (recordWith [(0, 1), (0x1FFF, 2)])).wellFormed = true := by decide

theorem witness_EncodeRestoresTheWord :
    decode (withData 0x0CA03FFE#32 0xABCD#16) = .ok (.pWwSram 0x3FFE 0xABCD) := rfl

/-- A selected row, and a word that selects none. -/
theorem witness_DecodeFollowsTheTable :
    (∃ row ∈ rows, 0xA0000000#32 &&& row.mask = row.pattern) ∧
    (∀ row ∈ rows, 0x00A10001#32 &&& row.mask ≠ row.pattern) ∧
    (fetching 0x00A10001).schedule = bare 0x00A10001#32 :: [] := by decide

/-- A wait in which the second group brings the grant: two polls, the third group not reached; and one that goes on. -/
theorem witness_PseudoOperationsExpand :
    secMayBegin (arb false false false false).blk = true ∧
    runLines [.arbAck] (arb false true false false) = .next (arb false true true false) ∧
    (∃ u, Pseudo.run .busreqWait [[], [.arbAck], []] (arb false true false false) = .done u [[]] ∧
      u.blk = (arb false true true false).blk) ∧
    ∃ u, Pseudo.run .busreqWait [[], []] (arb false true false false) = .waiting u ∧
      u.blk = (arb false true false false).blk := by
  have poll : ∀ groups s, s.blk.busAck = false →
      repeatUntilGranted (.pRw 0xA11100) ([] :: groups) s =
        repeatUntilGranted (.pRw 0xA11100) groups (afterPoll s) := fun groups s h => by
    rw [repeatUntilGranted_cons (t := s) rfl, h]
    rfl
  refine ⟨by decide, rfl, ⟨afterPoll { arb false true true false with draws := 2 }, ?_, rfl⟩,
    afterPoll (afterPoll (arb false true false false)), ?_, rfl⟩
  · have granted : runLines [.arbAck] (afterPoll (arb false true false false)) =
        .next { arb false true true false with draws := 2 } := rfl
    exact ((poll _ _ rfl).trans (repeatUntilGranted_cons granted)).trans rfl
  · exact (poll _ _ rfl).trans (poll _ _ rfl)

/-- Each kind of malformed word, at the edges of its range. -/
theorem witness_MalformedWordsAreRefused :
    (∀ w ∈ [0x01A10003, 0x02A10003, 0x03000000], w / 2 ^ 24 % 4 ≠ 0) ∧
    (∀ w ∈ [0x10010000, 0x10FF0000], w / 2 ^ 28 = 1 ∧ w / 2 ^ 16 % 2 ^ 8 ≠ 0) ∧
    (∀ w ∈ [0x20000001, 0x28000000, 0xBFFFFFFF], 2 ≤ w / 2 ^ 28 ∧ w / 2 ^ 28 < 12 ∧ w % 2 ^ 28 ≠ 0) ∧
    (∀ w ∈ [0xC0000000, 0xFFFFFFFF], 12 ≤ w / 2 ^ 28) ∧
    (fetching 0xC0000000).schedule = bare 0xC0000000#32 :: [] := by decide

/-- A primary word access at the first and at the last odd address, and a secondary word access. -/
theorem witness_WrongWidthAndOddWordsAreRefused :
    (∀ w ∈ [0x04000001, 0x0CFFFFFF], w / 2 ^ 24 % 4 = 0 ∧ w / 2 ^ 26 % 2 = 1 ∧ w / 2 ^ 28 = 0 ∧ w % 2 = 1) ∧
    (∀ w ∈ [0x14000000, 0x1C00FFFF],
      w / 2 ^ 24 % 4 = 0 ∧ w / 2 ^ 26 % 2 = 1 ∧ w / 2 ^ 28 = 1 ∧ w / 2 ^ 16 % 2 ^ 8 = 0) ∧
    (fetching 0x14000000).schedule = bare 0x14000000#32 :: [] := by decide

/-- The addresses on both sides of each window, and the indices not in block. -/
theorem witness_PrimaryAddressesOutsideTheBlockAreRefused :
    (∀ a ∈ [0x000000, 0x9FFFFF, 0xA06000, 0xA0FFFF, 0xA10020, 0xA110FF, 0xA11102, 0xA111FF, 0xA11202, 0xFFFFFF],
      ¬ OwnWindow a) ∧
    (∀ a ∈ [0xA10000, 0xA10001, 0xA10010, 0xA10013, 0xA10016, 0xA10019, 0xA1001C, 0xA1001F],
      0xA10000 ≤ a ∧ a ≤ 0xA1001F ∧ IndexNotInBlock ((a - 0xA10000) / 2)) ∧
    (∀ w ∈ [0x00A06000, 0x04A06000, 0x0CA10000],
      w / 2 ^ 28 = 0 ∧ w / 2 ^ 24 % 4 = 0 ∧ (w / 2 ^ 26 % 2 = 0 ∨ w % 2 ^ 24 % 2 = 0)) ∧
    (fetching 0x00A06000).schedule = bare 0x00A06000#32 :: [] := by decide

/-- Both holes of the secondary map, at their edges. -/
theorem witness_SecondaryHolesAreRefused :
    (∀ w ∈ [0x10006100, 0x18007EFF, 0x10007F20, 0x18007FFF],
      w / 2 ^ 28 = 1 ∧ w / 2 ^ 16 % 2 ^ 11 = 0 ∧
      ((0x6100 ≤ w % 2 ^ 16 ∧ w % 2 ^ 16 ≤ 0x7EFF) ∨ (0x7F20 ≤ w % 2 ^ 16 ∧ w % 2 ^ 16 ≤ 0x7FFF))) ∧
    (fetching 0x10006100).schedule = bare 0x10006100#32 :: [] := by decide

/-- A request that decodes, one that does not, and no request. -/
theorem witness_StepRunsTheDecodedInstruction :
    (fetching 0x00A10003).schedule = bare 0x00A10003#32 :: [] ∧ decode (bare 0x00A10003#32) = .ok .pRbData0 ∧
    (fetching 0x00A10001).schedule = bare 0x00A10001#32 :: [] ∧
    decode (bare 0x00A10001#32) = .error (.notInBlock 0xA10001) ∧ State.reset.schedule = [] :=
  ⟨rfl, rfl, rfl, rfl, rfl⟩

theorem witness_StepKeepsInv :
    (fetching 0x0CA11200).Inv ∧ ∃ t, step (fetching 0x0CA11200) = .next t ∧ t.blk.isReset = true :=
  ⟨by decide, _, rfl, rfl⟩

/-- A state in the middle of a handshake: stage 2, armed, the deadline T_TIMEOUT after the transition at 0. -/
def inHandshake : State :=
  withPort0 { stdPort with stage := 2, armed := true, deadline := Config.timeout, tmrGen := 2, gen := 2 } 0

theorem inHandshake_timed : inHandshake.Timed :=
  ⟨fun _ => ⟨rfl, (Nat.zero_add _).symm⟩, fun h => absurd rfl h, fun h => absurd rfl h⟩

theorem witness_HandshakeStaysTimed :
    (∀ r, Instr.pWbData0 0x00 ≠ .hRestore r) ∧ inHandshake.Timed ∧
    ∃ t, exec (.pWbData0 0x00) inHandshake = .next t ∧ t.blk.port0.stage = 3 :=
  ⟨fun _ h => Instr.noConfusion h, inHandshake_timed, _, rfl, rfl⟩

/-- NOW is exactly T_TIMEOUT after a transition at 0. -/
theorem witness_StageIsZeroAfterTheTimeout :
    let s := withPort0 stdPort Config.timeout
    s.Inv ∧ s.Timed ∧ (getPort s.blk 0).lastToggle + Config.timeout ≤ s.blk.now :=
  ⟨⟨⟨rfl, by decide, fun h => Bool.noConfusion h⟩, ⟨rfl, by decide, fun h => Bool.noConfusion h⟩,
      ⟨rfl, by decide, fun h => Bool.noConfusion h⟩, by decide, by decide, by decide, by decide, by decide⟩,
    ⟨fun h => absurd rfl h, fun h => absurd rfl h, fun h => absurd rfl h⟩, Nat.le_of_eq (Nat.zero_add _)⟩

/-- Two states that agree on port 0 and its pad and differ in the arbiter. -/
theorem witness_DataReadDependsOnlyOnPortAndPad :
    getPort (arb true false false false).blk 0 = getPort (arb false true true false).blk 0 ∧
    getPad (arb true false false false) 0 = getPad (arb false true true false) 0 ∧
    arb true false false false ≠ arb false true true false := by decide

/-- A data write that leaves the line and one that moves it, from stage 4. -/
theorem witness_DataWriteStoresAndCountsTransitions :
    (writeData 10 0 0x41 { stdPort with stage := 4 }).sel = stdPort.sel ∧
    (writeData 10 0 0x01 { stdPort with stage := 4 }).sel ≠ stdPort.sel ∧
    (writeData 10 0 0x01 { stdPort with stage := 4 }).stage = 1 := by decide

/-- A control write that leaves the line and one that moves it. -/
theorem witness_CtrlWriteStoresAndCountsTransitions :
    (writeCtrl 10 0 0x41 stdPort).sel = stdPort.sel ∧ (writeCtrl 10 0 0x40 Port.reset).sel ≠ Port.reset.sel := by
  decide

theorem witness_RepeatedWriteIsNoTransition :
    (∃ t, exec (wbData 0 0x00) (withPort0 stdPort 0) = .next t ∧ t.blk.port0.stage = 1) ∧
    ∃ t, exec (wbCtrl 0 0x40) State.reset = .next t ∧ t.blk.port0.stage = 1 :=
  ⟨⟨_, rfl, rfl⟩, _, rfl, rfl⟩

/-- Two transitions with no time between them. -/
theorem witness_SixButtonSequenceHasPeriodFour :
    (withPort0 stdPort 0).Inv ∧ (getPort (withPort0 stdPort 0).blk 0).ctrl.getLsbD 6 = true ∧
    (getPort (withPort0 stdPort 0).blk 0).stage = 0 ∧ (∀ g ∈ [0, 0], g < Config.timeout) ∧ [0, 0] ≠ ([] : List Nat) :=
  ⟨by decide, by decide, rfl, fun g hg => by simp at hg; rw [hg]; exact timeout_pos, by simp⟩

theorem witness_PortsAreIndependent :
    (∃ t, exec (.pWbCtrl1 0x40) State.reset = .next t ∧ t.blk.port1.stage = 1) ∧
    writesPort 0 (.pWbCtrl1 0x40) = false ∧ writesPort 2 (.pWbCtrl1 0x40) = false :=
  ⟨⟨_, rfl, rfl⟩, rfl, rfl⟩

theorem witness_SecondaryNeverTouchesPorts :
    isSecondary (.sWbWin 0 0) = true ∧ isSecondary .sBegin = true ∧ isSecondary .sEnd = true := by decide

/-- The last port, and the first number that is none. -/
theorem witness_PadSnapshotChange : (2 : Nat) = (2 : PortId).val ∧ 3 ≤ 3 := by decide

/-- A callback that acts, at the deadline, and three that do not: too early, stale, disarmed. -/
theorem witness_TimerCallback :
    (armedPort.armed = true ∧ 5 = armedPort.gen ∧ 5 = armedPort.tmrGen ∧
      armedPort.deadline ≤ (withPort0 armedPort 10).blk.now) ∧
    exec (.tExpire 0 5) (withPort0 armedPort 10) =
      .next (withPort0 { armedPort with stage := 0, armed := false } 10) ∧
    ¬ armedPort.deadline ≤ (withPort0 armedPort 9).blk.now ∧ ¬ 4 = armedPort.gen ∧ ¬ stdPort.armed = true ∧
    (0 : Nat) = (0 : PortId).val :=
  ⟨by decide, rfl, by decide, by decide, by decide, rfl⟩

theorem witness_NoTimerIsLeftDue : (withPort0 armedPort 9).Inv ∧ 2 < 3 := by decide

/-- The guard true, and false by each of its three bits. -/
theorem witness_SecondaryBeginGuard :
    secMayBegin (arb false false false false).blk = true ∧ secMayBegin (arb true false false false).blk = false ∧
    secMayBegin (arb false true false false).blk = false ∧ secMayBegin (arb false false false true).blk = false := by
  decide

theorem witness_SecondaryEnd :
    (arb false false false true).blk.secBusy = true ∧ (arb false false false false).blk.secBusy = false := by decide

/-- A grant due, and not due by each of its three bits. -/
theorem witness_GrantAcknowledgment :
    ackDue (arb false true false false).blk = true ∧ ackDue (arb false false false false).blk = false ∧
    ackDue (arb false true true false).blk = false ∧ ackDue (arb false true false true).blk = false := by decide

/-- Bit 0 of the byte and bit 8 of the word, set and clear with the other bits the other way. -/
theorem witness_BusRequestWrite :
    (0x01 : Byte).getLsbD 0 = true ∧ (0xFE : Byte).getLsbD 0 = false ∧
    (0x0100 : Half).getLsbD 8 = true ∧ (0xFEFF : Half).getLsbD 8 = false := by decide

theorem witness_PrimaryIsBlindToIsReset :
    kindOf (.pWbSram 0 0xF3) = 0 ∧ (∀ v, Instr.pWbSram 0 0xF3 ≠ .pWbReset v) ∧
    (∀ w, Instr.pWbSram 0 0xF3 ≠ .pWwReset w) ∧ withIsReset false State.reset ≠ State.reset :=
  ⟨rfl, fun _ h => Instr.noConfusion h, fun _ h => Instr.noConfusion h, by decide⟩

/-- Each way a bit rises: S.BEGIN, ARB.ACK, and a restore of either. -/
theorem witness_ArbiterBitsRiseOnlyUnderTheirGuards :
    exec .sBegin (arb false false false false) = .next (arb false false false true) ∧
    exec .arbAck (arb false true false false) = .next (arb false true true false) ∧
    exec (.hRestore (arb false false false true).blk) (arb false false false false) =
      .next (arb false false false true) ∧
    exec (.hRestore (arb false true true false).blk) (arb false false false false) =
      .next (arb false true true false) :=
  ⟨rfl, rfl, rfl, rfl⟩

theorem witness_GrantWaitsForTheInstruction :
    (arb false false false true).blk.secBusy = true ∧ (arb false false false true).blk.busAck = false := by decide

/-- In flight and not, for the bank register and every secondary access. -/
theorem witness_BankShift :
    (arb false false false true).blk.secBusy = true ∧ (arb false false false false).blk.secBusy = false ∧
    kindOf (.sWbBank 0 0) = 1 ∧ kindOf (.sRbWin 0) = 1 := by decide

theorem witness_BankRead :
    (arb false false false true).blk.secBusy = true ∧ (arb false false false false).blk.secBusy = false := by decide

/-- A shift, and an instruction that is none. -/
theorem witness_BankChangesOnlyByShift :
    (∃ t, exec (.sWbBank 0 1) (arb false false false true) = .next t ∧ t.blk.bankSr = 0x100) ∧
    ∃ t, exec .hReset (withBank 1 9 0x8000 State.reset) = .next t ∧ t.blk.bankSr = 1 :=
  ⟨⟨_, rfl, rfl⟩, _, rfl, rfl⟩

theorem witness_NowMovesOnlyByAdvance :
    (∃ t, exec (.tAdv 5) State.reset = .next t ∧ t.blk.now = 5) ∧
    ∃ t, exec .hReset (withPort0 stdPort 7) = .next t ∧ t.blk.now = 7 :=
  ⟨⟨_, rfl, rfl⟩, _, rfl, rfl⟩

theorem witness_SecondaryAccessNeedsAnInstruction :
    kindOf (.sRbSram 0) = 1 ∧ (arb false false false true).blk.secBusy = true ∧
    (arb false false false false).blk.secBusy = false := by decide

/-- The highest even offset. -/
theorem witness_PrimarySramRead : (0x3FFE : BitVec 14).toNat % 2 = 0 := by decide

/-- With the grant and without, at the highest even offset. -/
theorem witness_PrimarySramWrite :
    (arb false true true false).blk.busAck = true ∧ (arb false true false false).blk.busAck = false ∧
    (0x3FFE : BitVec 14).toNat % 2 = 0 := by decide

theorem witness_PrimarySoundRead :
    (arb false true true false).blk.busAck = true ∧ (arb false true false false).blk.busAck = false ∧
    (0x1FFE : BitVec 13).toNat % 2 = 0 := by decide

theorem witness_PrimarySoundWrite :
    (arb false true true false).blk.busAck = true ∧ (arb false true false false).blk.busAck = false ∧
    (0x1FFE : BitVec 13).toNat % 2 = 0 := by decide

theorem witness_SecondarySram :
    (arb false true false true).blk.secBusy = true ∧ (arb false false false false).blk.secBusy = false := by decide

theorem witness_SecondarySound :
    (arb false true false true).blk.secBusy = true ∧ (arb false false false false).blk.secBusy = false := by decide

theorem witness_VdpRelay :
    (arb false true false true).blk.secBusy = true ∧ (arb false false false false).blk.secBusy = false ∧
    (0x1E : BitVec 5).toNat % 2 = 0 ∧ (0x1F : BitVec 5).toNat % 2 = 1 := by decide

/-- Effective addresses on both sides of each edge of the block's own windows, and the machine states that reach two. -/
theorem witness_BankWindow :
    (arb false false false true).blk.secBusy = true ∧ (arb false false false false).blk.secBusy = false ∧
    (∀ ea ∈ [0xA00000, 0xA05FFF, 0xA10000, 0xA1001F, 0xA11100, 0xA11101, 0xA11200, 0xA11201], OwnWindow ea) ∧
    (∀ ea ∈ [0x9FFFFF, 0xA06000, 0xA0FFFF, 0xA10020, 0xA110FF, 0xA11102, 0xA111FF, 0xA11202], ¬ OwnWindow ea) ∧
    windowEA 0xA00000 0x5FFF = 0xA05FFF ∧ windowEA 0xA00000 0x6000 = 0xA06000 ∧
    windowEA 0xFF8000 0x7FFF = 0xFFFFFF := by decide

/-- The highest base and offset. -/
theorem witness_WindowAddressNeverCarries :
    (withBank 0x1FF 9 0xFF8000 State.reset).Inv ∧ (0x7FFF : BitVec 15).toNat = 0x7FFF := by decide

/-- A granted primary write, a secondary write, and a state that meets the invariant. -/
theorem witness_SharedRamWriters :
    (∃ t, exec (.pWwSram 0x10 0xABCD) (arb false true true false) = .next t ∧ t.blk.sram = [(0x10, 0xAB)]) ∧
    (∃ t, exec (.sWbSram 0x10 0xCD) (arb false false false true) = .next t ∧ t.blk.sram = [(0x10, 0xCD)]) ∧
    (arb false true true false).Inv :=
  ⟨⟨_, rfl, rfl⟩, ⟨_, rfl, rfl⟩, by decide⟩

/-- A primary access without the grant, and a device access with it. -/
theorem witness_PrimaryDeviceAccessNeedsTheGrant :
    (∃ t, exec (.pRbSnd 0) State.reset = .next t ∧ t.external = []) ∧ kindOf (.pRbSnd 0) = 0 ∧
    State.reset.blk.busAck = false ∧
    ∃ t, exec (.pWbSnd 0 1) (arb false true true false) = .next t ∧ t.external = [.soundWrite 0 1] :=
  ⟨⟨_, rfl, rfl⟩, rfl, rfl, _, rfl, rfl⟩

/-- A byte and its mirror. -/
theorem witness_BootLoadsTheSecondary :
    State.reset.blk.secBusy = false ∧
    (0x2001 : BitVec 14).toNat % 0x2000 = (0x0001 : BitVec 14).toNat % 0x2000 := by decide

/-- Consistent records, and one that breaks each invariant. -/
theorem witness_SaveAndRestore :
    BlockInv (arb false true true false).blk ∧ ¬ BlockInv (arb false false true false).blk ∧
    ¬ BlockInv (arb false true true true).blk ∧
    ¬ BlockInv { Block.reset with port0 := { Port.reset with sel := false } } ∧
    ¬ BlockInv { Block.reset with port1 := { Port.reset with stage := 5 } } ∧
    ¬ BlockInv { Block.reset with port2 := armedPort, now := 10 } ∧
    ¬ BlockInv { Block.reset with bankCount := 10 } ∧ ¬ BlockInv { Block.reset with bankBase := 0x8000 } ∧
    ¬ BlockInv (recordWith [(1, 0), (0, 0)]) ∧
    ∃ t, exec .hSave State.reset = .next t ∧ State.reset.Inv :=
  ⟨by decide, by decide, by decide, by decide, by decide, by decide, by decide, by decide, by decide, _, rfl,
    by decide⟩

/-- A deadline just reached, and one a tick away. -/
theorem witness_TimeAdvanceFiresDueTimers :
    (armedPort.armed = true ∧ armedPort.deadline ≤ 4 + 6) ∧ ¬ (armedPort.armed = true ∧ armedPort.deadline ≤ 4 + 5) ∧
    (getPort (withPort0 armedPort 4).blk 0 = armedPort) := by decide

/-- The last byte of SharedRAM. -/
theorem witness_PowerOnValues : (0x1FFF : Nat) < 0x2000 ∧ ¬ (0x2000 : Nat) < 0x2000 := by decide

/-- S.BEGIN acts exactly with SEC_MAY_BEGIN true. -/
theorem witness_OutputsFollowTheState :
    (outputs (arb false false false false) true false).secMayBegin = true ∧
    (outputs (arb false true false false) false true).secMayBegin = false := by decide

end Sys2Proof.Tests
end

section
/-! What a step does, one equation for each way the next request can turn out (R1, R51, R63, R222). -/

namespace Sys2Proof.Machine

theorem step_of_schedule_nil {s : State} (hs : s.schedule = []) : step s = .next s := by
  simp only [step, hs]

theorem step_of_decode_ok {s : State} {q : Request} {rest : List Request} {i : Instr}
    (hs : s.schedule = q :: rest) (hq : decode q = .ok i) : step s = exec i (beginOperation rest s) := by
  simp only [step, hs, hq]

theorem step_of_decode_error {s : State} {q : Request} {rest : List Request} {e : DecodeRefusal}
    (hs : s.schedule = q :: rest) (hq : decode q = .error e) : step s = .refused (refusalOf e) := by
  simp only [step, hs, hq]

end Sys2Proof.Machine

namespace Sys2Proof

open Machine

/-- Settles O10: the three cases of a step, the state it starts the operation in being `beginOperation`. -/
theorem stepRunsTheDecodedInstruction : Obligations.StepRunsTheDecodedInstruction :=
  ⟨fun _ _ _ _ hs hq => step_of_decode_ok hs hq,
   fun _ _ _ _ hs hq => step_of_decode_error hs hq,
   fun _ hs => step_of_schedule_nil hs⟩

end Sys2Proof
end

section
/-! How each state component moves, over every instruction: the power-on block field by field, the invariant of the
block kept by every effect of an instruction, and which effects move NOW, the bank register, SharedRAM and the two
arbiter bits. -/

namespace Sys2Proof.Machine

/-! ### The block at power-on (R29, R250) -/

@[simp] theorem powerOnBlock_now (seed : Nat) : (powerOnBlock seed).now = 0 := rfl
@[simp] theorem powerOnBlock_isReset (seed : Nat) : (powerOnBlock seed).isReset = true := rfl
@[simp] theorem powerOnBlock_busReq (seed : Nat) : (powerOnBlock seed).busReq = false := rfl
@[simp] theorem powerOnBlock_busAck (seed : Nat) : (powerOnBlock seed).busAck = false := rfl
@[simp] theorem powerOnBlock_secBusy (seed : Nat) : (powerOnBlock seed).secBusy = false := rfl
@[simp] theorem powerOnBlock_bankSr (seed : Nat) : (powerOnBlock seed).bankSr = 0 := rfl
@[simp] theorem powerOnBlock_bankCount (seed : Nat) : (powerOnBlock seed).bankCount = 0 := rfl
@[simp] theorem powerOnBlock_bankBase (seed : Nat) : (powerOnBlock seed).bankBase = 0 := rfl

@[simp] theorem getPort_powerOnBlock (seed : Nat) (p : PortId) :
    getPort (powerOnBlock seed) p = clearedPort 0 := by
  fin_cases p <;> rfl

/-- No byte has been written since power-on, so each holds the power-on draw (R29, log entry 7). -/
@[simp] theorem sramRead_powerOnBlock (seed i : Nat) :
    sramRead (powerOnBlock seed) i = Config.sramPowerOn seed i := rfl

/-- The reset state's block is the one power-on leaves at draw 0 (R265, log entry 15). -/
theorem reset_blk : State.reset.blk = powerOnBlock 0 := rfl

/-- A cleared port's line is idle, its stage 0 and its timer disarmed (R13, R14, R142). -/
theorem clearedPort_inv (now gen : Nat) : PortInv now (clearedPort gen) :=
  ⟨by simp, Nat.zero_le _, by simp⟩

/-- A cleared port is at stage 0, so its handshake has nothing to time (R147). -/
theorem clearedPort_timed (gen : Nat) : HandshakeTimed (clearedPort gen) :=
  fun hstage => absurd rfl hstage

theorem powerOnBlock_inv (seed : Nat) : BlockInv (powerOnBlock seed) :=
  have hport := clearedPort_inv 0 0
  ⟨hport, hport, hport, by simp, by simp, by simp, Nat.zero_le _, rfl⟩

/-! ### Each kind of update keeps the invariant of the block -/

theorem writeData_inv {now : Nat} {q : Port} (h : PortInv now q) (v : Byte) :
    PortInv now (writeData Config.timeout now v q) :=
  have ⟨_, hstage, hdue⟩ := h
  portWriteEpilogue_inv timeout_pos q.sel hstage hdue

theorem writeCtrl_inv {now : Nat} {q : Port} (h : PortInv now q) (v : Byte) :
    PortInv now (writeCtrl Config.timeout now v q) :=
  have ⟨_, hstage, hdue⟩ := h
  portWriteEpilogue_inv timeout_pos q.sel hstage hdue

theorem blockInv_port {b : Block} (h : BlockInv b) (p : PortId) : PortInv b.now (getPort b p) :=
  have ⟨h0, h1, h2, _⟩ := h
  (forall_port b).mpr ⟨h0, h1, h2⟩ p

theorem blockInv_setPort {b : Block} (h : BlockInv b) (p : PortId) {q : Port} (hq : PortInv b.now q) :
    BlockInv (setPort b p q) := by
  obtain ⟨h0, h1, h2, hrest⟩ := h
  fin_cases p
  · exact ⟨hq, h1, h2, hrest⟩
  · exact ⟨h0, hq, h2, hrest⟩
  · exact ⟨h0, h1, hq, hrest⟩

/-- The reset line is in no invariant, and the other arbiter bits only in the two of R27. -/
theorem blockInv_setArbiter {b : Block} (h : BlockInv b) (rst : Bool) {req ack busy : Bool}
    (hreq : ack = true → req = true) (hbusy : ack = true → busy = false) :
    BlockInv { b with isReset := rst, busReq := req, busAck := ack, secBusy := busy } :=
  have ⟨h0, h1, h2, _, _, hbank⟩ := h
  ⟨h0, h1, h2, hreq, hbusy, hbank⟩

theorem blockInv_requestBus {b : Block} (h : BlockInv b) (g : Bool) : BlockInv (requestBus g b) :=
  have ⟨_, _, _, _, hbusy, _⟩ := h
  blockInv_setArbiter h b.isReset (fun ha => (Bool.and_eq_true_iff.mp ha).1)
    (fun ha => hbusy (Bool.and_eq_true_iff.mp ha).2)

theorem blockInv_requestReset {b : Block} (h : BlockInv b) (v : Bool) : BlockInv (requestReset v b) :=
  have ⟨_, _, _, hreq, hbusy, _⟩ := h
  blockInv_setArbiter h (!v) hreq hbusy

/-- Under S.BEGIN's guard BUS_REQ is false, so there is no grant to exclude (R27, R162). -/
theorem blockInv_secBegin {b : Block} (h : BlockInv b) (hg : secMayBegin b = true) :
    BlockInv { b with secBusy := true } := by
  have ⟨_, _, _, hreq, _⟩ := h
  have hack : b.busAck ≠ true := fun ha => by simp [secMayBegin, hreq ha] at hg
  exact blockInv_setArbiter h b.isReset hreq (fun ha => absurd ha hack)

theorem blockInv_secEnd {b : Block} (h : BlockInv b) : BlockInv { b with secBusy := false } :=
  have ⟨_, _, _, hreq, _⟩ := h
  blockInv_setArbiter h b.isReset hreq (fun _ => rfl)

/-- ARB.ACK's guard is what a grant needs (R27, R165). -/
theorem blockInv_grant {b : Block} (h : BlockInv b) (hg : ackDue b = true) : BlockInv { b with busAck := true } := by
  simp only [ackDue, Bool.and_eq_true, Bool.not_eq_true'] at hg
  obtain ⟨⟨hreq, _⟩, hbusy⟩ := hg
  exact blockInv_setArbiter h b.isReset (fun _ => hreq) (fun _ => hbusy)

theorem blockInv_sramWrite {b : Block} (h : BlockInv b) (off : BitVec 14) (v : Byte) :
    BlockInv (sramWrite (sramIndex off) v b) :=
  have ⟨h0, h1, h2, hreq, hbusy, hbase, hcount, hsram⟩ := h
  ⟨h0, h1, h2, hreq, hbusy, hbase, hcount, wf_insert (sramIndex_lt off) v hsram⟩

theorem blockInv_bankShift {b : Block} (h : BlockInv b) (bit : Bool) : BlockInv (bankShift bit b) :=
  have ⟨h0, h1, h2, hreq, hbusy, _, _, hsram⟩ := h
  ⟨h0, h1, h2, hreq, hbusy, bankBaseOf_toNat _, Nat.min_le_right _ _, hsram⟩

/-- Every timer that the move of NOW makes due fires in the same operation (R141, R142). -/
theorem blockInv_advanceTime {b : Block} (h : BlockInv b) (dt : Nat) : BlockInv (advanceTime dt b) :=
  have ⟨h0, h1, h2, hrest⟩ := h
  ⟨expireIfDue_inv _ _ h0, expireIfDue_inv _ _ h1, expireIfDue_inv _ _ h2, hrest⟩

theorem blockInv_hardwareReset {b : Block} (h : BlockInv b) : BlockInv (hardwareResetBlock b) :=
  have ⟨_, _, _, _, _, hbank⟩ := h
  ⟨hardwareResetPort_inv _ _, hardwareResetPort_inv _ _, hardwareResetPort_inv _ _,
    by simp, by simp, hbank⟩

/-- Under the invariant a callback leaves its port as it is (R142, R143). -/
theorem blockInv_callback {b : Block} (h : BlockInv b) (p : PortId) (g : Nat) :
    BlockInv (setPort b p (if callbackValid b.now g (getPort b p) then expireEffect (getPort b p)
      else getPort b p)) := by
  rw [callbackValid_false (blockInv_port h p)]
  exact blockInv_setPort h p (blockInv_port h p)

/-- Whatever an instruction does to a block that meets the invariant, the block meets it afterwards. -/
theorem BlockEffect.keeps_inv {i : Instr} {s : State} {b : Block} (h : BlockEffect i s b) (hs : BlockInv s.blk) :
    BlockInv b := by
  cases h with
  | unchanged => exact hs
  | dataByte p | dataWord p => exact blockInv_setPort hs p (writeData_inv (blockInv_port hs p) _)
  | ctrlByte p | ctrlWord p => exact blockInv_setPort hs p (writeCtrl_inv (blockInv_port hs p) _)
  | serialByte p | serialWord p => exact blockInv_setPort hs p (blockInv_port hs p)
  | busreqByte | busreqWord => exact blockInv_requestBus hs _
  | resetByte | resetWord => exact blockInv_requestReset hs _
  | sramByte off | sramWord off | sramSecondary off => exact blockInv_sramWrite hs off _
  | bank => exact blockInv_bankShift hs _
  | secBegin _ hg => exact blockInv_secBegin hs hg
  | secEnd => exact blockInv_secEnd hs
  | grant _ hg => exact blockInv_grant hs hg
  | advance dt => exact blockInv_advanceTime hs dt
  | callback k g p => exact blockInv_callback hs p g
  | hardReset => exact blockInv_hardwareReset hs
  | powerOn => exact powerOnBlock_inv _
  | restore _ _ hr => exact (blockConsistent_iff _).mp hr

theorem exec_keeps_inv {i : Instr} {s t : State} (hs : s.Inv) (h : exec i s = .next t) : t.Inv :=
  (exec_blockEffect h).keeps_inv hs

/-- The two grants exclude each other (R27, R204). -/
theorem blockInv_grants_exclusive {b : Block} (h : BlockInv b) : ¬ (b.busAck = true ∧ b.secBusy = true) := by
  obtain ⟨_, _, _, _, hbusy, _⟩ := h
  rintro ⟨hack, hsec⟩
  simp [hbusy hack] at hsec

/-! ### Which effects move which field -/

theorem BlockEffect.now_cases {i : Instr} {s : State} {b : Block} (h : BlockEffect i s b) :
    i = .hPoweron ∨ (∃ r, i = .hRestore r) ∨ (∃ dt, i = .tAdv dt ∧ b.now = s.blk.now + dt) ∨
    b.now = s.blk.now := by
  cases h with
  | powerOn => exact .inl rfl
  | restore => exact .inr (.inl ⟨b, rfl⟩)
  | advance dt => exact .inr (.inr (.inl ⟨dt, rfl, rfl⟩))
  | _ => exact .inr (.inr (.inr (by simp)))

theorem BlockEffect.bank_cases {i : Instr} {s : State} {b : Block} (h : BlockEffect i s b) :
    (∃ a v, i = .sWbBank a v) ∨ i = .hPoweron ∨ (∃ r, i = .hRestore r) ∨
    (b.bankSr = s.blk.bankSr ∧ b.bankCount = s.blk.bankCount ∧ b.bankBase = s.blk.bankBase) := by
  cases h with
  | bank off v => exact .inl ⟨off, v, rfl⟩
  | powerOn => exact .inr (.inl rfl)
  | restore => exact .inr (.inr (.inl ⟨b, rfl⟩))
  | _ => exact .inr (.inr (.inr (by simp)))

theorem BlockEffect.sram_cases {i : Instr} {s : State} {b : Block} (h : BlockEffect i s b) :
    (b.sram = s.blk.sram ∧ b.sramSeed = s.blk.sramSeed) ∨
    (((∃ off v, i = .pWbSram off v) ∨ (∃ off w, i = .pWwSram off w)) ∧ s.blk.busAck = true) ∨
    ((∃ off v, i = .sWbSram off v) ∧ s.blk.secBusy = true) ∨ i = .hPoweron ∨ (∃ r, i = .hRestore r) := by
  cases h with
  | sramByte off v _ hack => exact .inr (.inl ⟨.inl ⟨off, v, rfl⟩, hack⟩)
  | sramWord off w _ hack => exact .inr (.inl ⟨.inr ⟨off, w, rfl⟩, hack⟩)
  | sramSecondary off v _ hbusy => exact .inr (.inr (.inl ⟨⟨off, v, rfl⟩, hbusy⟩))
  | powerOn => exact .inr (.inr (.inr (.inl rfl)))
  | restore => exact .inr (.inr (.inr (.inr ⟨b, rfl⟩)))
  | _ => exact .inl (by simp)

theorem BlockEffect.secBusy_rises {i : Instr} {s : State} {b : Block} (h : BlockEffect i s b)
    (hold : s.blk.secBusy = false) (hnew : b.secBusy = true) :
    (i = .sBegin ∧ s.blk.isReset = false ∧ s.blk.busReq = false) ∨ ∃ r, i = .hRestore r ∧ r.secBusy = true := by
  cases h with
  | secBegin _ hg =>
    simp only [secMayBegin, Bool.and_eq_true, Bool.not_eq_true'] at hg
    obtain ⟨⟨hrst, hreq⟩, _⟩ := hg
    exact .inl ⟨rfl, hrst, hreq⟩
  | restore => exact .inr ⟨b, rfl, hnew⟩
  | _ => simp [hold] at hnew

theorem BlockEffect.busAck_rises {i : Instr} {s : State} {b : Block} (h : BlockEffect i s b)
    (hold : s.blk.busAck = false) (hnew : b.busAck = true) :
    (i = .arbAck ∧ s.blk.busReq = true ∧ s.blk.secBusy = false) ∨ ∃ r, i = .hRestore r ∧ r.busAck = true := by
  cases h with
  | grant _ hg =>
    simp only [ackDue, Bool.and_eq_true, Bool.not_eq_true'] at hg
    obtain ⟨⟨hreq, _⟩, hbusy⟩ := hg
    exact .inl ⟨rfl, hreq, hbusy⟩
  | restore => exact .inr ⟨b, rfl, hnew⟩
  | _ => simp [hold] at hnew

/-! ### The same write again -/

theorem exec_wbData (p : PortId) (v : Byte) (s : State) :
    exec (wbData p v) s = updatePort p (writeData Config.timeout s.blk.now v) s := by
  fin_cases p <;> rfl

theorem exec_wbCtrl (p : PortId) (v : Byte) (s : State) :
    exec (wbCtrl p v) s = updatePort p (writeCtrl Config.timeout s.blk.now v) s := by
  fin_cases p <;> rfl

/-- With the line already at its level the epilogue has nothing to do (R102). -/
theorem portWriteEpilogue_of_settled {q : Port} (hsel : q.sel = lineLevel q.ctrl q.data) (timeout now : Nat) :
    portWriteEpilogue timeout now q.sel q = q := by
  simp [portWriteEpilogue, ← hsel]

/-- Whatever the write, the line is at its level afterwards (R13). -/
theorem portWriteEpilogue_settles (timeout now : Nat) (old q : Port) :
    let r := portWriteEpilogue timeout now old.sel q
    r.sel = lineLevel r.ctrl r.data := by
  obtain ⟨hdata, hctrl, _, hsel, _⟩ := portWriteEpilogue_spec timeout now old q
  simp only [hdata, hctrl, hsel]

theorem writeData_of_settled {q : Port} {v : Byte} (hdata : q.data = v) (hsel : q.sel = lineLevel q.ctrl q.data)
    (timeout now : Nat) : writeData timeout now v q = q := by
  subst hdata
  exact portWriteEpilogue_of_settled hsel timeout now

theorem writeCtrl_of_settled {q : Port} {v : Byte} (hctrl : q.ctrl = v) (hsel : q.sel = lineLevel q.ctrl q.data)
    (timeout now : Nat) : writeCtrl timeout now v q = q := by
  subst hctrl
  exact portWriteEpilogue_of_settled hsel timeout now

theorem writeData_writeData (timeout now : Nat) (v : Byte) (q : Port) :
    writeData timeout now v (writeData timeout now v q) = writeData timeout now v q := by
  obtain ⟨hdata, _⟩ := portWriteEpilogue_spec timeout now q { q with data := v }
  exact writeData_of_settled hdata (portWriteEpilogue_settles timeout now q _) timeout now

theorem writeCtrl_writeCtrl (timeout now : Nat) (v : Byte) (q : Port) :
    writeCtrl timeout now v (writeCtrl timeout now v q) = writeCtrl timeout now v q := by
  obtain ⟨_, hctrl, _⟩ := portWriteEpilogue_spec timeout now q { q with ctrl := v }
  exact writeCtrl_of_settled hctrl (portWriteEpilogue_settles timeout now q _) timeout now

/-- The later of two settings of one port stands. -/
theorem setPort_setPort (b : Block) (p : PortId) (q q' : Port) : setPort (setPort b p q) p q' = setPort b p q' := by
  fin_cases p <;> rfl

/-- An update of a port that repeats the update before it gives the same state. -/
theorem updatePort_repeated {p : PortId} {f : Port → Port} (hf : ∀ q, f (f q) = f q) {s t : State}
    (h : updatePort p f s = .next t) : updatePort p f t = .next t := by
  rw [updatePort_next h]
  simp [updatePort, updateBlock, hf, setPort_setPort, setBlk]

/-! ### S.BEGIN -/

/-- S.BEGIN changes the state exactly under its guard (R162, R223). -/
theorem secMayBegin_iff_exec_changes (s : State) :
    secMayBegin s.blk = true ↔ ∃ t, exec .sBegin s = .next t ∧ t ≠ s := by
  constructor
  · intro hg
    refine ⟨setBlk { s.blk with secBusy := true } s, if_pos hg, fun hsame => ?_⟩
    have hbusy : s.blk.secBusy = true := by rw [← hsame]; rfl
    simp [secMayBegin, hbusy] at hg
  · rintro ⟨t, ht, hne⟩
    by_contra hg
    have hheld : exec .sBegin s = .next s := if_neg hg
    rw [hheld] at ht
    cases ht
    exact hne rfl

end Sys2Proof.Machine

namespace Sys2Proof

open Machine

/-- Settles O11: a step waits or runs one instruction, and each effect an instruction can have keeps the
invariant. -/
theorem stepKeepsInv : Obligations.StepKeepsInv := by
  intro s t hs h
  rcases step_next h with ⟨_, rfl⟩ | ⟨q, rest, i, _, _, hexec⟩
  · exact hs
  · exact exec_keeps_inv (s := beginOperation rest s) hs hexec

/-- Settles O12: the reset state's block is a power-on block, all of whose ports are cleared. -/
theorem resetMeetsInv : Obligations.ResetMeetsInv :=
  have htimed := clearedPort_timed 0
  ⟨powerOnBlock_inv 0, htimed, htimed, htimed⟩

/-- Settles O19: after a write the line is settled, so the same write finds nothing to change. -/
theorem repeatedWriteIsNoTransition : Obligations.RepeatedWriteIsNoTransition := by
  intro s t p v
  constructor
  · intro h
    rw [exec_wbData] at h
    have hnow : t.blk.now = s.blk.now := by rw [updatePort_next h]; simp
    rw [exec_wbData, hnow]
    exact updatePort_repeated (writeData_writeData _ _ v) h
  · intro h
    rw [exec_wbCtrl] at h
    have hnow : t.blk.now = s.blk.now := by rw [updatePort_next h]; simp
    rw [exec_wbCtrl, hnow]
    exact updatePort_repeated (writeCtrl_writeCtrl _ _ v) h

/-- Settles O37, by the effects under which each of the two bits can rise. -/
theorem arbiterBitsRiseOnlyUnderTheirGuards : Obligations.ArbiterBitsRiseOnlyUnderTheirGuards :=
  fun _ _ _ h => ⟨(exec_blockEffect h).secBusy_rises, (exec_blockEffect h).busAck_rises⟩

/-- Settles O41, by the effects that move the bank register. -/
theorem bankChangesOnlyByShift : Obligations.BankChangesOnlyByShift :=
  fun _ _ _ h => (exec_blockEffect h).bank_cases

/-- Settles O42, by the effects that move NOW. -/
theorem nowMovesOnlyByAdvance : Obligations.NowMovesOnlyByAdvance :=
  fun _ _ _ h => (exec_blockEffect h).now_cases

/-- Settles O53, by the effects that write SharedRAM and the exclusion of R27. -/
theorem sharedRamWriters : Obligations.SharedRamWriters :=
  fun _ _ _ h => ⟨(exec_blockEffect h).sram_cases, blockInv_grants_exclusive⟩

/-- Settles O56: the block H.POWERON leaves is `powerOnBlock` of the draw it takes. -/
theorem powerOnValues : Obligations.PowerOnValues := fun s =>
  ⟨powerOnBlock s.draws, rfl, by simp⟩

/-- Settles O57: the reset state's block is the power-on block of draw 0. -/
theorem resetStateValues : Obligations.ResetStateValues := by
  simp [Obligations.ResetStateValues, reset_blk]

/-- Settles O60: each output is read off the state, and SEC_MAY_BEGIN is the guard under which S.BEGIN acts. -/
theorem outputsFollowTheState : Obligations.OutputsFollowTheState :=
  fun s _ _ => ⟨rfl, rfl, rfl, rfl, rfl, rfl, secMayBegin_iff_exec_changes s⟩

end Sys2Proof
end

section
/-! The address maps of 20_memory.md: what a selected row says of the kind, size and address of the word that selects
it, which addresses the rows of each bus cover, and so which accesses no row spells and under what reason each is
refused (R41, R42, R46, R63, R64, R222). -/

namespace Sys2Proof

open Machine

/-! ### The fields of a word, as numbers (R61) -/

theorem kindField_toNat (w : OpWord) : (kindField w).toNat = w.toNat / 2 ^ 28 := by
  have hw := w.isLt
  simp only [kindField, BitVec.extractLsb'_toNat, Nat.shiftRight_eq_div_pow]
  omega

theorem kindField_eq {w : OpWord} {k : BitVec 4} (hk : w.toNat / 2 ^ 28 = k.toNat) : kindField w = k :=
  BitVec.eq_of_toNat_eq ((kindField_toNat w).trans hk)

theorem addrField_toNat (w : OpWord) : (addrField w).toNat = w.toNat % 2 ^ 24 := by
  simp [addrField]

theorem extractLsb'_eq_zero {w : OpWord} {start len : Nat} (h : w.toNat / 2 ^ start % 2 ^ len = 0) :
    w.extractLsb' start len = 0#len :=
  BitVec.eq_of_toNat_eq (by simpa [Nat.shiftRight_eq_div_pow] using h)

theorem sizeField_eq (w : OpWord) : sizeField w = decide (w.toNat / 2 ^ 26 % 2 = 1) := by
  simp [sizeField, BitVec.getLsbD, Nat.testBit_eq_decide_div_mod_eq]

theorem addrField_odd (w : OpWord) : (addrField w).getLsbD 0 = decide (w.toNat % 2 = 1) := by
  simp [addrField, BitVec.getLsbD, Nat.testBit_eq_decide_div_mod_eq]

/-! ### The fields of a word and of the row it selects -/

/-- A word with its masked bits known lies between the pattern and the pattern with every free bit set. -/
theorem le_of_and_eq {n : Nat} {x m p : BitVec n} (h : x &&& m = p) :
    p.toNat ≤ x.toNat ∧ x.toNat ≤ (p ||| ~~~m).toNat := by
  subst h
  have hself : x &&& ((x &&& m) ||| ~~~m) = x := by
    ext i hi
    simp only [BitVec.getElem_and, BitVec.getElem_or, BitVec.getElem_not]
    cases x[i] <;> cases m[i] <;> rfl
  constructor
  · exact Nat.and_le_left
  · calc x.toNat = (x &&& ((x &&& m) ||| ~~~m)).toNat := by rw [hself]
      _ ≤ ((x &&& m) ||| ~~~m).toNat := Nat.and_le_right

/-- The lowest address a word that selects the row can carry. -/
def Row.firstAddr (row : Row) : Nat := (addrField row.pattern).toNat

/-- The highest address a word that selects the row can carry. -/
def Row.lastAddr (row : Row) : Nat := (addrField row.pattern ||| ~~~addrField row.mask).toNat

theorem Row.addr_bounds_of_selects {row : Row} {w : OpWord} (h : row.selects w = true) :
    row.firstAddr ≤ (addrField w).toNat ∧ (addrField w).toNat ≤ row.lastAddr := by
  have haddr : addrField w &&& addrField row.mask = addrField row.pattern := by
    rw [← (row.selects_iff w).mp h]
    exact (BitVec.extractLsb'_and).symm
  exact le_of_and_eq haddr

/-- A word agrees with the row it selects on each bit the row fixes. -/
theorem Row.getLsbD_of_selects {row : Row} {w : OpWord} (h : row.selects w = true) {k : Nat}
    (hk : row.mask.getLsbD k = true) : w.getLsbD k = row.pattern.getLsbD k := by
  rw [← (row.selects_iff w).mp h, BitVec.getLsbD_and, hk, Bool.and_true]

/-- Every row fixes KIND and SZ (R63). -/
theorem rows_fix_kind_and_size :
    ∀ row ∈ rows, kindField row.mask = BitVec.allOnes 4 ∧ sizeField row.mask = true := by
  decide +kernel

theorem Row.kindField_of_selects {row : Row} (hrow : row ∈ rows) {w : OpWord} (h : row.selects w = true) :
    kindField row.pattern = kindField w := by
  obtain ⟨hkind, _⟩ := rows_fix_kind_and_size row hrow
  calc kindField row.pattern = kindField (w &&& row.mask) := by rw [(row.selects_iff w).mp h]
    _ = kindField w &&& kindField row.mask := BitVec.extractLsb'_and
    _ = kindField w := by rw [hkind, BitVec.and_allOnes]

theorem Row.sizeField_of_selects {row : Row} (hrow : row ∈ rows) {w : OpWord} (h : row.selects w = true) :
    sizeField row.pattern = sizeField w :=
  have ⟨_, hsize⟩ := rows_fix_kind_and_size row hrow
  (Row.getLsbD_of_selects h hsize).symm

/-! ### What the rows of each bus cover -/

/-- A primary address with a meaning: in one of the windows of R41 and not at an index "not in block" (R64). -/
abbrev InPrimaryMap (a : Nat) : Prop :=
  OwnWindow a ∧ ¬ (0xA10000 ≤ a ∧ a ≤ 0xA1001F ∧ IndexNotInBlock ((a - 0xA10000) / 2))

/-- A row of the primary bus is a range inside the SharedRAM and sound windows, or one register (R41, R64). -/
theorem primaryRows_cover : ∀ row ∈ rows, kindField row.pattern = 0#4 →
    (0xA00000 ≤ row.firstAddr ∧ row.lastAddr ≤ 0xA05FFF) ∨
    (row.firstAddr = row.lastAddr ∧ InPrimaryMap row.firstAddr) := by
  decide +kernel

/-- A word row of the primary bus fixes ADDR's bit 0 at 0 (R46). -/
theorem primaryWordRows_even : ∀ row ∈ rows, kindField row.pattern = 0#4 → sizeField row.pattern = true →
    row.mask.getLsbD 0 = true ∧ row.pattern.getLsbD 0 = false := by
  decide +kernel

/-- A row of the secondary bus is a byte access below, between or above the two holes (R42, R46). -/
theorem secondaryRows_cover : ∀ row ∈ rows, kindField row.pattern = 1#4 →
    sizeField row.pattern = false ∧
    (row.lastAddr < 0x6100 ∨ (0x7F00 ≤ row.firstAddr ∧ row.lastAddr < 0x7F20) ∨ 0x8000 ≤ row.firstAddr) := by
  decide +kernel

/-! ### Words that select no row -/

theorem no_row_of_primary_outside {w : OpWord} (hkind : kindField w = 0#4)
    (haddr : ¬ InPrimaryMap (addrField w).toNat) : ∀ row ∈ rows, row.selects w ≠ true := by
  intro row hrow hsel
  obtain ⟨hfirst, hlast⟩ := Row.addr_bounds_of_selects hsel
  apply haddr
  rcases primaryRows_cover row hrow ((Row.kindField_of_selects hrow hsel).trans hkind) with hwindow | ⟨hone, hmap⟩
  · exact ⟨by omega, by omega⟩
  · have hself : (addrField w).toNat = row.firstAddr := by omega
    rwa [hself]

theorem no_row_of_primary_odd_word {w : OpWord} (hkind : kindField w = 0#4) (hsize : sizeField w = true)
    (hodd : w.getLsbD 0 = true) : ∀ row ∈ rows, row.selects w ≠ true := by
  intro row hrow hsel
  obtain ⟨hmask, heven⟩ := primaryWordRows_even row hrow ((Row.kindField_of_selects hrow hsel).trans hkind)
    ((Row.sizeField_of_selects hrow hsel).trans hsize)
  rw [Row.getLsbD_of_selects hsel hmask, heven] at hodd
  cases hodd

theorem no_row_of_secondary_word {w : OpWord} (hkind : kindField w = 1#4) (hsize : sizeField w = true) :
    ∀ row ∈ rows, row.selects w ≠ true := by
  intro row hrow hsel
  obtain ⟨hbyte, _⟩ := secondaryRows_cover row hrow ((Row.kindField_of_selects hrow hsel).trans hkind)
  rw [Row.sizeField_of_selects hrow hsel, hsize] at hbyte
  cases hbyte

theorem no_row_of_secondary_hole {w : OpWord} (hkind : kindField w = 1#4)
    (hhole : (0x6100 ≤ (addrField w).toNat ∧ (addrField w).toNat ≤ 0x7EFF) ∨
      (0x7F20 ≤ (addrField w).toNat ∧ (addrField w).toNat ≤ 0x7FFF)) : ∀ row ∈ rows, row.selects w ≠ true := by
  intro row hrow hsel
  obtain ⟨hfirst, hlast⟩ := Row.addr_bounds_of_selects hsel
  obtain ⟨_, hcover⟩ := secondaryRows_cover row hrow ((Row.kindField_of_selects hrow hsel).trans hkind)
  omega

theorem decode_of_no_row {q : Request} (h : ∀ row ∈ rows, row.selects q.word ≠ true) :
    decode q = .error (refusalReason q.word) := by
  simp [decode, List.find?_eq_none.mpr h]

/-! ### The reason under which a word is refused (R222, log entry 16) -/

theorem malformedWord_of_primary {w : OpWord} (hkind : kindField w = 0#4) (hzero : w.toNat / 2 ^ 24 % 4 = 0) :
    malformedWord w = false := by
  have hfield : w.extractLsb' 24 2 = 0#2 := extractLsb'_eq_zero hzero
  simp [malformedWord, hkind, hfield]

theorem malformedWord_of_secondary {w : OpWord} (hkind : kindField w = 1#4) (hzero : w.toNat / 2 ^ 24 % 4 = 0)
    (hhigh : w.toNat / 2 ^ 16 % 2 ^ 8 = 0) : malformedWord w = false := by
  have hfield : w.extractLsb' 24 2 = 0#2 := extractLsb'_eq_zero hzero
  have haddr : w.extractLsb' 16 8 = 0#8 := extractLsb'_eq_zero hhigh
  simp [malformedWord, hkind, hfield, haddr]

theorem refusalReason_primary {w : OpWord} (hkind : kindField w = 0#4) (hzero : w.toNat / 2 ^ 24 % 4 = 0) :
    refusalReason w =
      if w.toNat / 2 ^ 26 % 2 = 1 ∧ w.toNat % 2 = 1 then .misaligned (addrField w) else .notInBlock (addrField w) := by
  rw [refusalReason, malformedWord_of_primary hkind hzero, hkind, sizeField_eq, addrField_odd]
  simp

theorem refusalReason_secondary {w : OpWord} (hkind : kindField w = 1#4) (hzero : w.toNat / 2 ^ 24 % 4 = 0)
    (hhigh : w.toNat / 2 ^ 16 % 2 ^ 8 = 0) :
    refusalReason w = if w.toNat / 2 ^ 26 % 2 = 1 then .wrongWidth else .notInBlock (addrField w) := by
  simp [refusalReason, malformedWord_of_secondary hkind hzero hhigh, hkind, sizeField_eq]

end Sys2Proof

namespace Sys2Proof.Machine

theorem step_of_no_row {s : State} {q : Request} {rest : List Request} (hs : s.schedule = q :: rest)
    (hrows : ∀ row ∈ rows, row.selects q.word ≠ true) {e : DecodeRefusal} (he : refusalReason q.word = e) :
    step s = .refused (refusalOf e) :=
  step_of_decode_error hs (he ▸ decode_of_no_row hrows)

end Sys2Proof.Machine

namespace Sys2Proof

open Machine

/-- Settles O5: the word rows of the primary bus are even, the secondary bus has none, and the width and alignment
reasons come before the address. -/
theorem wrongWidthAndOddWordsAreRefused : Obligations.WrongWidthAndOddWordsAreRefused := by
  intro s q rest hs w hzero hword
  have hsize : sizeField q.word = true := by rw [sizeField_eq]; exact decide_eq_true hword
  constructor
  · intro hkind hodd
    have hk : kindField q.word = 0#4 := kindField_eq hkind
    have hbit : q.word.getLsbD 0 = true := by simpa [BitVec.getLsbD, Nat.testBit_zero] using hodd
    have hreason : refusalReason q.word = .misaligned (addrField q.word) := by
      rw [refusalReason_primary hk hzero, if_pos ⟨hword, hodd⟩]
    exact ⟨addrField q.word, addrField_toNat q.word,
      step_of_no_row hs (no_row_of_primary_odd_word hk hsize hbit) hreason⟩
  · intro hkind hhigh
    have hk : kindField q.word = 1#4 := kindField_eq hkind
    have hreason : refusalReason q.word = .wrongWidth := by
      rw [refusalReason_secondary hk hzero hhigh, if_pos hword]
    exact step_of_no_row hs (no_row_of_secondary_word hk hsize) hreason

/-- Settles O6: every primary row lies in the map of R41 and R64. -/
theorem primaryAddressesOutsideTheBlockAreRefused : Obligations.PrimaryAddressesOutsideTheBlockAreRefused := by
  intro s q rest hs w a hkind hzero haligned houtside
  have hk : kindField q.word = 0#4 := kindField_eq hkind
  have haddr : (addrField q.word).toNat = a := addrField_toNat q.word
  have hmap : ¬ InPrimaryMap (addrField q.word).toNat := by
    rw [haddr]
    rintro ⟨hwindow, hindex⟩
    exact houtside.elim (absurd hwindow) hindex
  have hreason : refusalReason q.word = .notInBlock (addrField q.word) := by
    rw [refusalReason_primary hk hzero, if_neg (by omega)]
  exact ⟨addrField q.word, haddr, step_of_no_row hs (no_row_of_primary_outside hk hmap) hreason⟩

/-- Settles O7: every secondary row lies below, between or above the two holes of R42. -/
theorem secondaryHolesAreRefused : Obligations.SecondaryHolesAreRefused := by
  intro s q rest hs w a hkind hzero hhole
  have hk : kindField q.word = 1#4 := kindField_eq hkind
  have haddr : (addrField q.word).toNat = a := by
    rw [addrField_toNat]
    omega
  have hreason : refusalReason q.word = .notInBlock (addrField q.word) := by
    rw [refusalReason_secondary hk (by omega) (by omega), if_neg (by omega)]
  exact ⟨addrField q.word, haddr, step_of_no_row hs (no_row_of_secondary_hole hk (by rwa [haddr])) hreason⟩

/-- Settles O52: under R24 the base is a multiple of the window's size, so the sum stays below 2^24. -/
theorem windowAddressNeverCarries : Obligations.WindowAddressNeverCarries := by
  intro s off hs
  obtain ⟨_, _, _, _, _, hbase, _⟩ := hs
  have hea := windowEA_toNat hbase off
  exact ⟨by rw [hea, hbase], hea⟩

end Sys2Proof
end

section
/-! The opcode table read both ways (R61 to R63): a word that selects a row decodes to that row's instruction, each
instruction's word selects its row and gives the operands back, and a row's instruction is spelled by the word that
selected it. -/

namespace Sys2Proof

open Machine

/-! ### The row a word selects -/

/-- Two rows that one word selects agree on every bit that both fix (R63). -/
theorem Row.agree_of_selects {a b : Row} {w : OpWord} (ha : a.selects w = true) (hb : b.selects w = true) :
    (a.pattern ^^^ b.pattern) &&& (a.mask &&& b.mask) = 0 := by
  rw [← (a.selects_iff w).mp ha, ← (b.selects_iff w).mp hb]
  ext i hi
  simp only [BitVec.getElem_and, BitVec.getElem_xor, BitVec.getElem_zero, BitVec.ofNat_eq_ofNat]
  cases w[i] <;> cases a.mask[i] <;> cases b.mask[i] <;> rfl

/-- The rows before a selected row are not selected, so the search of the table stops at it. -/
theorem find?_of_selects {row : Row} (hrow : row ∈ rows) {w : OpWord} (h : row.selects w = true) :
    rows.find? (fun row => row.selects w) = some row := by
  obtain ⟨before, after, hsplit⟩ := List.append_of_mem hrow
  obtain ⟨_, _, hdisjoint⟩ := List.pairwise_append.mp (hsplit ▸ rows_disjoint)
  refine List.find?_eq_some_iff_append.mpr ⟨h, before, after, hsplit, fun a ha => ?_⟩
  have hne := hdisjoint a ha row List.mem_cons_self
  rw [Bool.not_eq_true']
  exact Bool.eq_false_iff.mpr fun hsel => hne (Row.agree_of_selects hsel h)

/-- A request whose word selects a row decodes to what that row makes of it (R63). -/
theorem decode_of_selects {q : Request} {row : Row} (hrow : row ∈ rows) (h : row.selects q.word = true) :
    decode q = .ok (row.make q.word q.operands) :=
  decode_of_find (find?_of_selects hrow h) q.operands

/-- Only a word that selects a row decodes. -/
theorem exists_row_of_decode {q : Request} {i : Instr} (h : decode q = .ok i) :
    ∃ row ∈ rows, row.selects q.word = true ∧ i = row.make q.word q.operands := by
  by_contra hnone
  have hno : ∀ row ∈ rows, row.selects q.word ≠ true := fun row hrow hsel =>
    hnone ⟨row, hrow, hsel, Except.ok.inj (h.symm.trans (decode_of_selects hrow hsel))⟩
  rw [decode_of_no_row hno] at h
  cases h

theorem length_filter_selects_le_one (w : OpWord) : (rows.filter (fun row => row.selects w)).length ≤ 1 := by
  by_contra! htwo
  have hsel : ∀ k, (hk : k < (rows.filter (fun row => row.selects w)).length) →
      (rows.filter (fun row => row.selects w))[k].selects w = true :=
    fun _ hk => (List.mem_filter.mp (List.getElem_mem hk)).2
  have hne := List.pairwise_iff_getElem.mp (rows_disjoint.filter _) 0 1 (by omega) htwo Nat.zero_lt_one
  exact hne (Row.agree_of_selects (hsel 0 _) (hsel 1 htwo))

/-- Settles O3: any two rows differ in a bit that both fix. -/
theorem decodeFollowsTheTable : Obligations.DecodeFollowsTheTable := by
  refine ⟨length_filter_selects_le_one, fun q row hrow h => ?_, fun q h => ?_⟩
  · exact decode_of_selects hrow ((row.selects_iff q.word).mpr h)
  · have hno : ∀ row ∈ rows, row.selects q.word ≠ true :=
      fun row hrow hsel => h row hrow ((row.selects_iff q.word).mp hsel)
    exact ⟨⟨_, decode_of_no_row hno⟩, fun s rest hs => ⟨_, step_of_no_row hs hno rfl⟩⟩

/-! ### From the instruction to its word and back -/

theorem decode_encode_of_row {i : Instr} {row : Row} (hrow : row ∈ rows)
    (hsel : (encode i).word &&& row.mask = row.pattern)
    (hmake : row.make (encode i).word (encode i).operands = i) : decode (encode i) = .ok i := by
  rw [decode_of_selects hrow ((row.selects_iff _).mpr hsel), hmake]

/-- An instruction with a word of its own: its operands all stand beside the word. -/
theorem decode_encode_of_find {i : Instr} {w : OpWord} {o : Operands} {row : Row} (hword : encode i = ⟨w, o⟩)
    (hfind : rows.find? (fun row => row.selects w) = some row) (hmake : row.make w o = i) :
    decode (encode i) = .ok i := by
  rw [hword, decode_of_find hfind o, hmake]

theorem bridgeRow_mem {k : Nat} {row : Row} (h : bridgeRows[k]? = some row) : row ∈ rows := by
  simp [rows, List.mem_of_getElem? h]

theorem secondaryRow_mem {k : Nat} {row : Row} (h : secondaryRows[k]? = some row) : row ∈ rows := by
  simp [rows, List.mem_of_getElem? h]

/-- A window's row fixes what stands above the offset and leaves the offset free (R61). -/
theorem and_window {m k : Nat} (hi : BitVec m) (off : BitVec k) :
    (hi ++ off) &&& (BitVec.allOnes m ++ 0#k) = hi ++ 0#k := by
  rw [BitVec.and_append, BitVec.and_allOnes, BitVec.and_zero]

/-- The row of a word access fixes bit 0 of the offset at 0 as well (R46). -/
theorem and_evenWindow {m k : Nat} (hi : BitVec m) {off : BitVec k} (heven : evenOffset off = true) :
    (hi ++ off) &&& (BitVec.allOnes m ++ 1#k) = hi ++ 0#k := by
  have hlow : off &&& 1#k = 0#k := by
    rw [BitVec.and_one_eq_setWidth_ofBool_getLsbD, (Bool.not_eq_true' _).mp heven]
    simp
  rw [BitVec.and_append, BitVec.and_allOnes, hlow]

/-- A byte access reads back the byte that was put beside its word (R62). -/
theorem half_low_byte (v : Byte) : (v.setWidth 16).setWidth 8 = v := by
  rw [BitVec.setWidth_setWidth_of_le v (by decide), BitVec.setWidth_eq]

/-- An instruction that addresses a window gives its offset back from the free bits of the row's mask and its data from
the operand beside the word; every other instruction has a word of its own. -/
theorem decode_encode {i : Instr} (hwf : i.wellFormed = true) : decode (encode i) = .ok i := by
  have hoff {m k : Nat} {hi : BitVec m} {off : BitVec k} : (hi ++ off).extractLsb' 0 k = off :=
    BitVec.extractLsb'_append_eq_right
  cases i with
  | pRbSram off =>
    exact decode_encode_of_row (bridgeRow_mem (k := 0) rfl) (and_window _ off) (congrArg _ hoff)
  | pWbSram off v =>
    exact decode_encode_of_row (bridgeRow_mem (k := 1) rfl) (and_window _ off) (congrArg₂ _ hoff (half_low_byte v))
  | pRwSram off =>
    exact decode_encode_of_row (bridgeRow_mem (k := 2) rfl) (and_evenWindow _ hwf) (congrArg _ hoff)
  | pWwSram off v =>
    exact decode_encode_of_row (bridgeRow_mem (k := 3) rfl) (and_evenWindow _ hwf) (congrArg₂ _ hoff rfl)
  | pRbSnd off =>
    exact decode_encode_of_row (bridgeRow_mem (k := 4) rfl) (and_window _ off) (congrArg _ hoff)
  | pWbSnd off v =>
    exact decode_encode_of_row (bridgeRow_mem (k := 5) rfl) (and_window _ off) (congrArg₂ _ hoff (half_low_byte v))
  | pRwSnd off =>
    exact decode_encode_of_row (bridgeRow_mem (k := 6) rfl) (and_evenWindow _ hwf) (congrArg _ hoff)
  | pWwSnd off v =>
    exact decode_encode_of_row (bridgeRow_mem (k := 7) rfl) (and_evenWindow _ hwf) (congrArg₂ _ hoff rfl)
  | sRbSram off =>
    exact decode_encode_of_row (secondaryRow_mem (k := 0) rfl) (and_window _ off) (congrArg _ hoff)
  | sWbSram off v =>
    exact decode_encode_of_row (secondaryRow_mem (k := 1) rfl) (and_window _ off) (congrArg₂ _ hoff (half_low_byte v))
  | sRbSnd off =>
    exact decode_encode_of_row (secondaryRow_mem (k := 2) rfl) (and_window _ off) (congrArg _ hoff)
  | sWbSnd off v =>
    exact decode_encode_of_row (secondaryRow_mem (k := 3) rfl) (and_window _ off) (congrArg₂ _ hoff (half_low_byte v))
  | sRbBank off =>
    exact decode_encode_of_row (secondaryRow_mem (k := 4) rfl) (and_window _ off) (congrArg _ hoff)
  | sWbBank off v =>
    exact decode_encode_of_row (secondaryRow_mem (k := 5) rfl) (and_window _ off) (congrArg₂ _ hoff (half_low_byte v))
  | sRbVdp off =>
    exact decode_encode_of_row (secondaryRow_mem (k := 6) rfl) (and_window _ off) (congrArg _ hoff)
  | sWbVdp off v =>
    exact decode_encode_of_row (secondaryRow_mem (k := 7) rfl) (and_window _ off) (congrArg₂ _ hoff (half_low_byte v))
  | sRbWin off =>
    exact decode_encode_of_row (secondaryRow_mem (k := 8) rfl) (and_window _ off) (congrArg _ hoff)
  | sWbWin off v =>
    exact decode_encode_of_row (secondaryRow_mem (k := 9) rfl) (and_window _ off) (congrArg₂ _ hoff (half_low_byte v))
  | _ =>
    refine decode_encode_of_find rfl rfl ?_
    simp only [Operands.byteData, half_low_byte]

/-- Settles O1: a window's word selects its row with the offset in the free bits, and any other word is a row's
pattern. -/
theorem decodeEncodeAgree : Obligations.DecodeEncodeAgree := fun _ hwf => decode_encode hwf

/-- A word without operands, read from the table, is the instruction it spells. -/
theorem decodeTableWord_of_encode {w : Nat} {i : Instr} (hwf : i.wellFormed = true)
    (hword : encode i = bare (BitVec.ofNat 32 (w % 2 ^ 32))) : decodeTableWord 32 w = some i := by
  rw [decodeTableWord, ← hword, decode_encode hwf]

/-- Settles O8: each of the words is the encoding of its operation. -/
theorem sampleWordsDecode : Obligations.SampleWordsDecode := by
  and_intros <;> exact decodeTableWord_of_encode rfl rfl

/-! ### From the word to its instruction and back -/

/-- A field that the row fixes is the row's in every word that selects it. -/
theorem Row.extractLsb'_of_selects {row : Row} {w : OpWord} (h : row.selects w = true) {start len : Nat}
    (hfixed : row.mask.extractLsb' start len = BitVec.allOnes len) :
    w.extractLsb' start len = row.pattern.extractLsb' start len := by
  rw [← (row.selects_iff w).mp h, BitVec.extractLsb'_and, hfixed, BitVec.and_allOnes]

/-- A word is the bits its row fixes above a window's offset, then the offset. -/
theorem append_offset_eq {m k : Nat} {w mask pattern : BitVec (m + k)} {hi : BitVec m} (h : w &&& mask = pattern)
    (hfixed : mask.extractLsb' k m = BitVec.allOnes m) (hhi : pattern.extractLsb' k m = hi) :
    hi ++ w.extractLsb' 0 k = w := by
  rw [← hhi, ← h, BitVec.extractLsb'_and, hfixed, BitVec.and_allOnes, BitVec.extractLsb'_append_extractLsb']

/-- The rows of `rows` before the windows, those of the port, bus-request and reset registers. -/
def registerRows : List Row := port0Rows ++ port1Rows ++ port2Rows ++ controlRows

/-- A row that fixes every bit makes an instruction that the row's one word spells. -/
theorem word_encode_of_oneWordRow {table : List Row} {w : OpWord} {o : Operands}
    (htable : table.all (fun row =>
      row.mask == BitVec.allOnes 32 && (encode (row.make w o)).word == row.pattern) = true)
    {row : Row} (hrow : row ∈ table) (h : w &&& row.mask = row.pattern) : (encode (row.make w o)).word = w := by
  have hentry := List.all_eq_true.mp htable row hrow
  simp only [Bool.and_eq_true, beq_iff_eq] at hentry
  obtain ⟨hmask, hword⟩ := hentry
  rw [hword, ← h, hmask, BitVec.and_allOnes]

theorem word_encode_bridgeRows (w : OpWord) (o : Operands) :
    ∀ row ∈ bridgeRows, w &&& row.mask = row.pattern → (encode (row.make w o)).word = w := by
  simp only [bridgeRows, List.forall_mem_cons]
  refine ⟨?rbSram, ?wbSram, ?rwSram, ?wwSram, ?rbSnd, ?wbSnd, ?rwSnd, ?wwSnd, List.forall_mem_nil _⟩
  case rbSram | wbSram | rwSram | wwSram => exact fun h => append_offset_eq (m := 18) h rfl rfl
  case rbSnd | wbSnd | rwSnd | wwSnd => exact fun h => append_offset_eq (m := 19) h rfl rfl

theorem word_encode_secondaryRows (w : OpWord) (o : Operands) :
    ∀ row ∈ secondaryRows, w &&& row.mask = row.pattern → (encode (row.make w o)).word = w := by
  simp only [secondaryRows, List.forall_mem_cons]
  refine ⟨?rbSram, ?wbSram, ?rbSnd, ?wbSnd, ?rbBank, ?wbBank, ?rbVdp, ?wbVdp, ?rbWin, ?wbWin, List.forall_mem_nil _⟩
  case rbSram | wbSram => exact fun h => append_offset_eq (m := 18) h rfl rfl
  case rbSnd | wbSnd => exact fun h => append_offset_eq (m := 19) h rfl rfl
  case rbBank | wbBank => exact fun h => append_offset_eq (m := 24) h rfl rfl
  case rbVdp | wbVdp => exact fun h => append_offset_eq (m := 27) h rfl rfl
  case rbWin | wbWin => exact fun h => append_offset_eq (m := 17) h rfl rfl

theorem word_encode_of_selects {row : Row} (hrow : row ∈ rows) {w : OpWord} (hsel : row.selects w = true)
    (o : Operands) : (encode (row.make w o)).word = w := by
  have h := (row.selects_iff w).mp hsel
  rcases List.mem_append.mp hrow with hrow | hevent
  · rcases List.mem_append.mp hrow with hrow | hsecondary
    · rcases List.mem_append.mp hrow with hregister | hbridge
      · exact word_encode_of_oneWordRow (table := registerRows) rfl hregister h
      · exact word_encode_bridgeRows w o row hbridge h
    · exact word_encode_secondaryRows w o row hsecondary h
  · exact word_encode_of_oneWordRow (table := eventRows) rfl hevent h

/-- Settles O2: the word that selects a row is the row's fixed bits with the offset that the instruction keeps. -/
theorem encodeRestoresTheWord : Obligations.EncodeRestoresTheWord := by
  intro q i h
  obtain ⟨row, hrow, hsel, rfl⟩ := exists_row_of_decode h
  exact word_encode_of_selects hrow hsel q.operands

end Sys2Proof
end

section
/-! The "must be 0" fields of a word: no row of the table is spelled by a word that sets one (R61, R63, R75). -/

namespace Sys2Proof

open Machine

/-- Every row fixes bits 25..24 at 0, a secondary row bits 23..16 too and an event's row bits 27..0; no row's KIND is
reserved. -/
theorem rows_fix_zero_fields : ∀ row ∈ rows,
    (row.mask.extractLsb' 24 2 = BitVec.allOnes 2 ∧ row.pattern.extractLsb' 24 2 = 0#2) ∧
    (kindField row.pattern = 1#4 →
      row.mask.extractLsb' 16 8 = BitVec.allOnes 8 ∧ row.pattern.extractLsb' 16 8 = 0#8) ∧
    (2#4 ≤ kindField row.pattern →
      row.mask.extractLsb' 0 28 = BitVec.allOnes 28 ∧ row.pattern.extractLsb' 0 28 = 0#28) ∧
    kindField row.pattern < 12#4 := by
  decide +kernel

theorem Row.extractLsb'_eq_zero_of_selects {row : Row} {w : OpWord} (h : row.selects w = true) {start len : Nat}
    (hfield : row.mask.extractLsb' start len = BitVec.allOnes len ∧ row.pattern.extractLsb' start len = 0#len) :
    w.extractLsb' start len = 0#len :=
  have ⟨hfixed, hzero⟩ := hfield
  (Row.extractLsb'_of_selects h hfixed).trans hzero

theorem malformedWord_of_selects {row : Row} (hrow : row ∈ rows) {w : OpWord} (h : row.selects w = true) :
    malformedWord w = false := by
  obtain ⟨hwidth, hsecondary, hevent, hkind⟩ := rows_fix_zero_fields row hrow
  rw [Row.kindField_of_selects hrow h] at hsecondary hevent hkind
  have h24 : w.extractLsb' 24 2 = 0#2 := Row.extractLsb'_eq_zero_of_selects h hwidth
  have h16 : kindField w = 1#4 → w.extractLsb' 16 8 = 0#8 :=
    fun hk => Row.extractLsb'_eq_zero_of_selects h (hsecondary hk)
  have h0 : 2#4 ≤ kindField w → w.extractLsb' 0 28 = 0#28 :=
    fun hk => Row.extractLsb'_eq_zero_of_selects h (hevent hk)
  simp only [malformedWord, Bool.or_eq_false_iff, Bool.and_eq_false_imp, bne_eq_false_iff_eq, beq_iff_eq,
    Bool.and_eq_true, decide_eq_true_eq, decide_eq_false_iff_not, BitVec.not_le]
  exact ⟨⟨⟨h24, h16⟩, fun hk => h0 hk.1⟩, hkind⟩

theorem extractLsb'_ne_zero {w : OpWord} {start len : Nat} (h : w.toNat / 2 ^ start % 2 ^ len ≠ 0) :
    w.extractLsb' start len ≠ 0#len := fun hzero =>
  h (by simpa [Nat.shiftRight_eq_div_pow] using congrArg BitVec.toNat hzero)

/-- The malformed forms of R61 and R75, as numbers. -/
theorem malformedWord_of_toNat {w : OpWord}
    (h : w.toNat / 2 ^ 24 % 4 ≠ 0 ∨ (w.toNat / 2 ^ 28 = 1 ∧ w.toNat / 2 ^ 16 % 2 ^ 8 ≠ 0) ∨
      (2 ≤ w.toNat / 2 ^ 28 ∧ w.toNat / 2 ^ 28 < 12 ∧ w.toNat % 2 ^ 28 ≠ 0) ∨ 12 ≤ w.toNat / 2 ^ 28) :
    malformedWord w = true := by
  simp only [malformedWord, Bool.or_eq_true, Bool.and_eq_true, bne_iff_ne, beq_iff_eq, decide_eq_true_eq,
    BitVec.le_def, BitVec.lt_def, kindField_toNat, or_assoc, and_assoc]
  rcases h with h24 | ⟨hkind, h16⟩ | ⟨hlow, hhigh, h0⟩ | hreserved
  · exact .inl (extractLsb'_ne_zero h24)
  · exact .inr (.inl ⟨kindField_eq hkind, extractLsb'_ne_zero h16⟩)
  · exact .inr (.inr (.inl ⟨hlow, hhigh, extractLsb'_ne_zero (by simpa using h0)⟩))
  · exact .inr (.inr (.inr hreserved))

/-- Settles O4: no row is selected by a malformed word, and its reason is named first. -/
theorem malformedWordsAreRefused : Obligations.MalformedWordsAreRefused := by
  intro s q rest hs h
  have hmalformed : malformedWord q.word = true := malformedWord_of_toNat h
  have hno : ∀ row ∈ rows, row.selects q.word ≠ true := fun row hrow hsel => by
    rw [malformedWord_of_selects hrow hsel] at hmalformed
    cases hmalformed
  exact step_of_no_row hs hno (if_pos hmalformed)

end Sys2Proof
end

section
/-! A read of a data register, bit by bit (R65, R69, R100, R101, R103, R112). -/

namespace Sys2Proof.Machine

theorem exec_rbData (p : PortId) (s : State) : exec (rbData p) s = replyByte (dataValue s p) s := by
  fin_cases p <;> rfl

theorem exec_rwData (p : PortId) (s : State) : exec (rwData p) s = replyLowLane (dataValue s p) s := by
  fin_cases p <;> rfl

/-- The normal row is what the pins of a three-button pad carry (R69). -/
theorem normalRow_bit (pad : Pad) (q : Port) (k : Fin 6) :
    (normalRow pad q.sel).getLsbD k = pinLevel .pad3 pad q k := by
  unfold normalRow n
  split
  all_goals
    rename_i hsel
    rw [row_bits]
    fin_cases k <;> simp [pinLevel, hsel]

/-- Outside the two special stages of a six-button pad the row is the normal one (R100). -/
theorem padRow_of_normal {kind : PadKind} {stage : Nat} (h : kind = .pad6 → stage ≠ 3 ∧ stage ≠ 4)
    (pad : Pad) (sel : Bool) : padRow kind pad sel stage = normalRow pad sel := by
  cases kind with
  | pad3 => simp [padRow]
  | pad6 => simp [padRow, h rfl]

theorem pinLevel_of_normal {kind : PadKind} {q : Port} (h : kind = .pad6 → q.stage ≠ 3 ∧ q.stage ≠ 4)
    (pad : Pad) (k : Nat) : pinLevel kind pad q k = pinLevel .pad3 pad q k := by
  cases kind with
  | pad3 => rfl
  | pad6 => simp [pinLevel, h rfl]

/-- The six low pins carry the row of the pad's kind, the stage and the select level (R100, R112). -/
theorem padRow_bit (kind : PadKind) (pad : Pad) (q : Port) (k : Fin 6) :
    (padRow kind pad q.sel q.stage).getLsbD k = pinLevel kind pad q k := by
  by_cases hnormal : kind = .pad6 → q.stage ≠ 3 ∧ q.stage ≠ 4
  · rw [padRow_of_normal hnormal, pinLevel_of_normal hnormal, normalRow_bit]
  · simp only [ne_eq, Classical.not_imp, not_and_or, not_not] at hnormal
    obtain ⟨rfl, hsentinel | hextended⟩ := hnormal
    · simp only [padRow, hsentinel, if_true]
      rw [sentinel_bits, normalRow_bit]
      fin_cases k <;> simp [pinLevel, hsentinel]
    · simp only [padRow, hextended, if_true, n]
      rw [if_neg (by decide), extended_bits]
      have h5 := normalRow_bit pad q 5
      have h4 := normalRow_bit pad q 4
      fin_cases k <;> simp_all [pinLevel]

/-- A data read shows the latch where CTRL is 1 and the pin where it is 0. -/
theorem portRead_bit (kind : PadKind) (pad : Pad) (q : Port) (k : Fin 8) :
    (portRead kind pad q).getLsbD k = if q.ctrl.getLsbD k then q.data.getLsbD k else pinLevel kind pad q k := by
  have hpin : (1#1 ++ BitVec.ofBool q.sel ++ padRow kind pad q.sel q.stage : BitVec 8).getLsbD k =
      pinLevel kind pad q k := by
    rw [pin_bits]
    by_cases hrow : k.val < 6
    · rw [if_neg (by omega), if_neg (by omega)]
      exact padRow_bit kind pad q ⟨k, hrow⟩
    · obtain hk | hk : k.val = 6 ∨ k.val = 7 := by omega
      · simp [hk, pinLevel]
      · simp [hk, pinLevel]
  simp only [portRead, BitVec.getLsbD_or, BitVec.getLsbD_and, BitVec.getLsbD_not, hpin, k.isLt, decide_true,
    Bool.true_and]
  cases q.ctrl.getLsbD k <;> simp

end Sys2Proof.Machine

namespace Sys2Proof

open Machine

/-- Settles O15: both reads return `portRead`, whose bits are chosen one by one. -/
theorem dataReadShowsLatchOrPin : Obligations.DataReadShowsLatchOrPin := fun s p =>
  ⟨dataValue s p, exec_rbData p s, ⟨_, _, exec_rwData p s, lowLane_lanes _ _⟩, portRead_bit _ _ _⟩

end Sys2Proof
end

section
/-! The pseudo-operations of R78 by their expansions, and the runs of the two that take more than one operation:
BANK.SET bit by bit, BUSREQ.WAIT poll by poll. -/

namespace Sys2Proof.Machine

/-! ### BANK.SET -/

theorem decode_bankSetBit (bit : Bool) :
    (bankSetBit bit).map (fun line => decode line.request) =
      [.sBegin, .sWbBank 0 (if bit then 1 else 0), .sEnd].map .ok := by
  cases bit <;> rfl

/-- The first `count` bits of BANK.SET n. -/
def bankSetLines (n : BitVec 9) (count : Nat) : List TraceLine :=
  (List.range count).flatMap (fun k => bankSetBit (n.getLsbD k))

/-- After `count` bits the low `count` bits of `n` stand at the top of the register, the oldest lowest (R170). -/
theorem runLines_bankSetLines (n : BitVec 9) {s : State} (hs : secMayBegin s.blk = true) {count : Nat}
    (hcount : count ≤ 9) :
    ∃ t, runLines (bankSetLines n count) s = .next t ∧ secMayBegin t.blk = true ∧
      ∀ k < count, t.blk.bankSr.getLsbD (9 - count + k) = n.getLsbD k := by
  induction count with
  | zero => exact ⟨s, rfl, hs, fun k hk => absurd hk (Nat.not_lt_zero k)⟩
  | succ count ih =>
    obtain ⟨t, hrun, ht, hbits⟩ := ih (by omega)
    obtain ⟨hlast, hnext⟩ := runLines_bankSetBit (n.getLsbD count) ht
    refine ⟨afterBankSetBit (n.getLsbD count) t, ?_, hnext, fun k hk => ?_⟩
    · rw [bankSetLines, List.range_succ, List.flatMap_append, List.flatMap_singleton]
      exact (runLines_append hrun).trans hlast
    · rw [afterBankSetBit, bankShift_bit]
      split
      · congr 1
        omega
      · rw [← hbits k (by omega)]
        congr 1
        omega

theorem run_bankSet (n : BitVec 9) {s : State} (hs : secMayBegin s.blk = true) (groups : List (List TraceLine)) :
    ∃ t, Pseudo.run (.bankSet n) groups s = .done t groups ∧ t.blk.bankSr = n := by
  obtain ⟨t, hrun, _, hbits⟩ := runLines_bankSetLines n hs (Nat.le_refl 9)
  refine ⟨t, congrArg (completed groups) hrun, BitVec.eq_of_getLsbD_eq fun k hk => ?_⟩
  simpa using hbits k hk

/-! ### BUSREQ.WAIT -/

theorem showsGranted_iff (r : Result) : showsGranted r = true ↔ ∃ w, r = .word w ∧ w.getLsbD 8 = false := by
  cases r <;> simp [showsGranted]

/-- A wait ends only after a poll that shows granted. -/
theorem showsGranted_of_done {poll : TraceLine} {groups left : List (List TraceLine)} {s t : State}
    (h : repeatUntilGranted poll groups s = .done t left) : showsGranted t.result = true := by
  induction groups generalizing s with
  | nil => cases h
  | cons group groups ih =>
    simp only [repeatUntilGranted] at h
    split at h
    · split at h
      · cases h
        assumption
      · exact ih h
    · contradiction
    · cases h

end Sys2Proof.Machine

namespace Sys2Proof

open Machine

/-- TH p, v is written as the word that spells the data write (R61, R77). -/
theorem request_th (p : PortId) (v : Byte) :
    (TraceLine.pWb (0xA10003 + 2 * BitVec.ofNat 24 p.val) v).request = encode (wbData p v) := by
  fin_cases p <;> rfl

theorem wellFormed_wbData (p : PortId) (v : Byte) : (wbData p v).wellFormed = true := by
  fin_cases p <;> rfl

theorem expandsTo_th (p : PortId) (v : Byte) : ExpandsTo (.th p v) [wbData p v] := by
  refine ⟨_, rfl, ?_⟩
  rw [List.map_singleton, List.map_singleton, request_th, decode_encode (wellFormed_wbData p v)]

theorem expandsTo_bankSet (n : BitVec 9) : ExpandsTo (.bankSet n) ((List.range 9).flatMap (fun k =>
    [.sBegin, .sWbBank 0 (if n.getLsbD k then 1 else 0), .sEnd])) := by
  refine ⟨bankSetLines n 9, rfl, ?_⟩
  simp only [bankSetLines, List.map_flatMap, decode_bankSetBit]

/-- Settles O9: the expansions by decoding their words, BANK.SET by its invariant over the bits written, BUSREQ.WAIT by
the round of its poll. -/
theorem pseudoOperationsExpand : Obligations.PseudoOperationsExpand := by
  refine ⟨expandsTo_th, ⟨_, rfl, rfl⟩, ⟨_, rfl, rfl⟩, ⟨_, rfl, rfl⟩, ⟨_, rfl, rfl⟩, expandsTo_bankSet,
    ?_, ⟨.pRw 0xA11100, rfl, rfl, fun _ => rfl, fun group groups s t h => ?_⟩, fun groups left s t h => ?_⟩
  · intro n s groups hreset hreq hbusy
    exact run_bankSet n (by simp [secMayBegin, hreset, hreq, hbusy]) groups
  · have hbit := statusWord_bit8 (Config.draw7 t.draws) t.blk.busAck (Config.draw8 t.draws)
    have hpoll := runLine_eq (line := .pRw 0xA11100) (i := .pRwBusreq) rfl t
    refine ⟨afterPoll t, _, hpoll, rfl, rfl, hbit, (repeatUntilGranted_cons h).trans ?_⟩
    rw [hbit]
    cases t.blk.busAck <;> rfl
  · exact (showsGranted_iff t.result).mp (showsGranted_of_done h)

end Sys2Proof
end

section
/-! The handshake of a port stays timed (R110, R144, R147): every update of a port either is a transition, which arms
the timer from its own instant, or leaves the timed fields as they are, or puts the stage back to 0. -/

namespace Sys2Proof.Machine

theorem State.timed_iff (s : State) : s.Timed ↔ ∀ p, HandshakeTimed (getPort s.blk p) :=
  (forall_port s.blk).symm

/-- A transition arms the timer T_TIMEOUT after its own instant (R110); without one nothing timed moves. -/
theorem portWriteEpilogue_timed {q : Port} (h : HandshakeTimed q) (now : Nat) (old : Port) :
    HandshakeTimed (portWriteEpilogue Config.timeout now old.sel q) := by
  obtain ⟨_, _, _, _, hsame, hmoved⟩ := portWriteEpilogue_spec Config.timeout now old q
  by_cases hline : lineLevel q.ctrl q.data = old.sel
  · rw [hsame hline]
    exact h
  · rw [hmoved hline]
    exact fun _ => ⟨rfl, rfl⟩

theorem writeData_timed {q : Port} (h : HandshakeTimed q) (now : Nat) (v : Byte) :
    HandshakeTimed (writeData Config.timeout now v q) :=
  portWriteEpilogue_timed (q := { q with data := v }) h now q

theorem writeCtrl_timed {q : Port} (h : HandshakeTimed q) (now : Nat) (v : Byte) :
    HandshakeTimed (writeCtrl Config.timeout now v q) :=
  portWriteEpilogue_timed (q := { q with ctrl := v }) h now q

/-- A timer that fires disarms itself and puts the stage back to 0 (R144), whatever it fires on. -/
theorem timed_ite_expireEffect {q : Port} (h : HandshakeTimed q) (fires : Bool) :
    HandshakeTimed (if fires then expireEffect q else q) := by
  cases fires with
  | false => exact h
  | true => exact fun hstage => absurd rfl hstage

theorem hardwareResetPort_timed (q : Port) : HandshakeTimed (hardwareResetPort q) :=
  fun hstage => absurd rfl hstage

/-- Replacing one port needs the new port timed and no more. -/
theorem timed_setPort {b : Block} (hb : ∀ p, HandshakeTimed (getPort b p)) (p : PortId) {q : Port}
    (hq : HandshakeTimed q) : ∀ p', HandshakeTimed (getPort (setPort b p q) p') := by
  intro p'
  by_cases hp : p' = p
  · rw [hp, getPort_setPort_self]
    exact hq
  · rw [getPort_setPort_ne hp]
    exact hb p'

/-- Every effect but the restore of a record keeps every handshake timed; a restored record is not asked for it
(R263). -/
theorem BlockEffect.keeps_timed {i : Instr} {s : State} {b : Block} (h : BlockEffect i s b)
    (hi : ∀ r, i ≠ .hRestore r) (hs : ∀ p, HandshakeTimed (getPort s.blk p)) :
    ∀ p, HandshakeTimed (getPort b p) := by
  cases h with
  | dataByte p | dataWord p => exact timed_setPort hs p (writeData_timed (hs p) _ _)
  | ctrlByte p | ctrlWord p => exact timed_setPort hs p (writeCtrl_timed (hs p) _ _)
  | serialByte p | serialWord p => exact timed_setPort hs p (hs p)
  | callback _ _ p => exact timed_setPort hs p (timed_ite_expireEffect (hs p) _)
  | advance dt =>
    intro p
    rw [advanceTime, getPort_mapPorts]
    exact timed_ite_expireEffect (hs p) (timerDue _ _)
  | hardReset =>
    exact (forall_port _).mpr
      ⟨hardwareResetPort_timed _, hardwareResetPort_timed _, hardwareResetPort_timed _⟩
  | powerOn =>
    intro p
    rw [getPort_powerOnBlock]
    exact clearedPort_timed 0
  | restore => exact absurd rfl (hi b)
  | _ => exact hs

end Sys2Proof.Machine

namespace Sys2Proof

open Machine

/-- Settles O13, by the effects an instruction can have on the block. -/
theorem handshakeStaysTimed : Obligations.HandshakeStaysTimed := by
  intro i s t hi hs h
  rw [State.timed_iff] at hs ⊢
  exact (exec_blockEffect h).keeps_timed hi hs

end Sys2Proof
end

section
/-! The port registers: what each access answers and what a write does to its port (R102 to R111, R116). -/

namespace Sys2Proof.Machine

/-! ### Each access by port -/

theorem exec_wwData (p : PortId) (w : Half) (s : State) :
    exec (wwData p w) s = updatePort p (writeData Config.timeout s.blk.now (lowLane w)) s := by
  fin_cases p <;> rfl

theorem exec_wwCtrl (p : PortId) (w : Half) (s : State) :
    exec (wwCtrl p w) s = updatePort p (writeCtrl Config.timeout s.blk.now (lowLane w)) s := by
  fin_cases p <;> rfl

theorem exec_wbSerial (p : PortId) (v : Byte) (s : State) :
    exec (wbSerial p v) s = updatePort p (writeSerial v) s := by
  fin_cases p <;> rfl

theorem exec_wwSerial (p : PortId) (w : Half) (s : State) :
    exec (wwSerial p w) s = updatePort p (writeSerial (lowLane w)) s := by
  fin_cases p <;> rfl

theorem exec_rbCtrl (p : PortId) (s : State) : exec (rbCtrl p) s = replyByte (getPort s.blk p).ctrl s := by
  fin_cases p <;> rfl

theorem exec_rwCtrl (p : PortId) (s : State) : exec (rwCtrl p) s = replyLowLane (getPort s.blk p).ctrl s := by
  fin_cases p <;> rfl

theorem exec_rbSerial (p : PortId) (s : State) : exec (rbSerial p) s = replyByte (getPort s.blk p).serial s := by
  fin_cases p <;> rfl

theorem exec_rwSerial (p : PortId) (s : State) : exec (rwSerial p) s = replyLowLane (getPort s.blk p).serial s := by
  fin_cases p <;> rfl

theorem exec_readHi {p : PortId} {i : Instr} (hi : i ∈ [rbDataHi p, rbCtrlHi p, rbSerialHi p]) (s : State) :
    exec i s = replyAnyByte s := by
  simp only [List.mem_cons, List.not_mem_nil, or_false] at hi
  obtain rfl | rfl | rfl := hi
  all_goals fin_cases p <;> rfl

theorem exec_writeHi {p : PortId} {v : Byte} {i : Instr} (hi : i ∈ [wbDataHi p v, wbCtrlHi p v, wbSerialHi p v])
    (s : State) : exec i s = ignoreWrite v s := by
  simp only [List.mem_cons, List.not_mem_nil, or_false] at hi
  obtain rfl | rfl | rfl := hi
  all_goals fin_cases p <;> rfl

/-! ### The data read and the handshake of a write -/

/-- The data byte is a function of the port and its snapshot (R101, R116). -/
theorem dataValue_congr {s s' : State} {p : PortId} (hport : getPort s.blk p = getPort s'.blk p)
    (hpad : getPad s p = getPad s' p) : dataValue s p = dataValue s' p := by
  simp only [dataValue, hport, hpad]

/-- Whatever bytes a write leaves in the data and control registers, the epilogue moves the handshake by the line
alone (R102, R110, R111). -/
theorem portWriteEpilogue_handshake (now : Nat) (old : Port) (data ctrl : Byte) :
    HandshakeAfterWrite now old
      (portWriteEpilogue Config.timeout now old.sel { old with data := data, ctrl := ctrl }) := by
  obtain ⟨hdata, hctrl, _, hsel, hsame, hmoved⟩ :=
    portWriteEpilogue_spec Config.timeout now old { old with data := data, ctrl := ctrl }
  refine ⟨by rw [hsel, hctrl, hdata]; rfl, fun h => ?_, fun h => ?_⟩
  · rw [hsame (hsel ▸ h)]
    exact ⟨rfl, rfl, rfl, rfl, rfl, rfl⟩
  · rw [hmoved (hsel ▸ h)]
    exact ⟨rfl, rfl, rfl, rfl, rfl, rfl⟩

end Sys2Proof.Machine

namespace Sys2Proof

open Machine

/-- Settles O16: both reads answer `dataValue`, which agreeing ports and snapshots fix. -/
theorem dataReadDependsOnlyOnPortAndPad : Obligations.DataReadDependsOnlyOnPortAndPad := by
  intro s s' p hport hpad
  have hvalue := dataValue_congr hport hpad
  refine ⟨dataValue s p, exec_rbData p s, ?_, _, _, _, _, exec_rwData p s, exec_rwData p s', lowLane_lanes _ _, ?_⟩
  · rw [hvalue]
    exact exec_rbData p s'
  · rw [hvalue]
    exact lowLane_lanes _ _

/-- Settles O17: both widths run `writeData` on the low lane, whose epilogue is the handshake. -/
theorem dataWriteStoresAndCountsTransitions : Obligations.DataWriteStoresAndCountsTransitions := by
  intro s p w
  obtain ⟨hdata, hctrl, hserial, _⟩ := portWriteEpilogue_spec Config.timeout s.blk.now (getPort s.blk p)
    { getPort s.blk p with data := lowLane w }
  exact ⟨_, exec_wwData p w s, exec_wbData p (lowLane w) s, hdata, hctrl, hserial,
    portWriteEpilogue_handshake _ _ (lowLane w) (getPort s.blk p).ctrl⟩

/-- Settles O18: both widths run `writeCtrl` on the low lane, whose epilogue is the handshake. -/
theorem ctrlWriteStoresAndCountsTransitions : Obligations.CtrlWriteStoresAndCountsTransitions := by
  intro s p w
  obtain ⟨hdata, hctrl, hserial, _⟩ := portWriteEpilogue_spec Config.timeout s.blk.now (getPort s.blk p)
    { getPort s.blk p with ctrl := lowLane w }
  exact ⟨_, exec_wwCtrl p w s, exec_wbCtrl p (lowLane w) s, hctrl, hdata, hserial,
    portWriteEpilogue_handshake _ _ (getPort s.blk p).data (lowLane w)⟩

/-- Settles O20, access by access. -/
theorem controlAndSerialRegistersReadBack : Obligations.ControlAndSerialRegistersReadBack := fun s p w =>
  ⟨exec_wwSerial p w s, exec_wbSerial p (lowLane w) s, exec_rbSerial p s, exec_rbCtrl p s,
    ⟨_, _, exec_rwSerial p s, lowLane_lanes _ _⟩, ⟨_, _, exec_rwCtrl p s, lowLane_lanes _ _⟩⟩

/-- Settles O21: the reads are one reply of any value, the writes are all ignored. -/
theorem highLaneAccessDoesNothing : Obligations.HighLaneAccessDoesNothing := fun s _ _ =>
  ⟨fun _ hi => ⟨_, _, exec_readHi hi s⟩, fun _ hi => exec_writeHi hi s⟩

end Sys2Proof
end

section
/-! The port operand of an event (R62) and the snapshot change of I.PADSET (R115). -/

namespace Sys2Proof.Machine

@[simp] theorem portOperand_val (p : PortId) : portOperand p.val = some p := by
  fin_cases p <;> rfl

theorem portOperand_of_three_le {k : Nat} (h : 3 ≤ k) : portOperand k = none := by
  obtain ⟨j, rfl⟩ := Nat.exists_eq_add_of_le' h
  rfl

theorem exec_iPadset_val (p : PortId) (d : Pad) (s : State) :
    exec (.iPadset p.val d) s = .next (setPad p d s) := by
  simp only [exec, execIPadset, portOperand_val]

theorem exec_iPadset_badPort {k : Nat} (h : 3 ≤ k) (d : Pad) (s : State) :
    exec (.iPadset k d) s = .refused (.badPort k) := by
  simp only [exec, execIPadset, portOperand_of_three_le h]

end Sys2Proof.Machine

namespace Sys2Proof

open Machine

/-- Settles O25: a port the block has takes the snapshot by `setPad`, a number from 3 on names none. -/
theorem padSnapshotChange : Obligations.PadSnapshotChange := by
  intro s d n
  refine ⟨fun p hn => ?_, fun hn => exec_iPadset_badPort hn d s⟩
  subst hn
  exact ⟨setPad p d s, exec_iPadset_val p d s, getPad_setPad_self p d s, fun _ hp => getPad_setPad_ne hp d s,
    by simp⟩

end Sys2Proof
end

section
/-! Operations that neither read nor write port state (R118): putting other ports in before gives what putting them in
after gives. -/

namespace Sys2Proof.Machine

/-- The operation is blind to the ports: exchanging all three commutes with it. -/
def PortBlind (f : State → Out) : Prop :=
  ∀ (q0 q1 q2 : Port) (s : State), f (withPorts q0 q1 q2 s) = mapNext (withPorts q0 q1 q2) (f s)

/-- A choice is blind when its condition is and both branches are. -/
theorem portBlind_ite {c : Block → Bool} {f g : State → Out}
    (hc : ∀ q0 q1 q2 s, c (withPorts q0 q1 q2 s).blk = c s.blk) (hf : PortBlind f) (hg : PortBlind g) :
    PortBlind (fun s => if c s.blk then f s else g s) := by
  intro q0 q1 q2 s
  simp only [hc, hf q0 q1 q2 s, hg q0 q1 q2 s, apply_ite (mapNext _)]

theorem portBlind_refused (r : Refusal) : PortBlind (fun _ => .refused r) := fun _ _ _ _ => rfl

theorem portBlind_duringInstruction {f : State → Out} (hf : PortBlind f) : PortBlind (duringInstruction f) :=
  portBlind_ite (c := Block.secBusy) (fun _ _ _ _ => rfl) hf (portBlind_refused _)

theorem portBlind_readWindow (off : BitVec 15) :
    PortBlind (fun s => readWindow (windowEA s.blk.bankBase off) s) :=
  portBlind_ite (c := fun b => inOwnWindow (windowEA b.bankBase off)) (fun _ _ _ _ => rfl)
    (fun _ _ _ _ => rfl) (fun _ _ _ _ => rfl)

theorem portBlind_writeWindow (off : BitVec 15) (v : Byte) :
    PortBlind (fun s => writeWindow (windowEA s.blk.bankBase off) v s) :=
  portBlind_ite (c := fun b => inOwnWindow (windowEA b.bankBase off)) (fun _ _ _ _ => rfl)
    (fun _ _ _ _ => rfl) (fun _ _ _ _ => rfl)

/-- An operation of the secondary is an access inside an instruction or a boundary of one, and none names a port. -/
theorem exec_portBlind {i : Instr} (hi : isSecondary i = true) : PortBlind (exec i) := by
  cases i with
  | sRbSram | sWbSram | sRbSnd | sWbSnd | sRbBank | sWbBank | sRbVdp | sWbVdp =>
    exact portBlind_duringInstruction (fun _ _ _ _ => rfl)
  | sRbWin off => exact portBlind_duringInstruction (portBlind_readWindow off)
  | sWbWin off v => exact portBlind_duringInstruction (portBlind_writeWindow off v)
  | sBegin =>
    exact portBlind_ite (c := secMayBegin) (fun _ _ _ _ => rfl) (fun _ _ _ _ => rfl) (fun _ _ _ _ => rfl)
  | sEnd =>
    exact portBlind_ite (c := Block.secBusy) (fun _ _ _ _ => rfl) (fun _ _ _ _ => rfl) (portBlind_refused _)
  | _ => cases hi

end Sys2Proof.Machine

namespace Sys2Proof

open Machine

/-- Settles O24: every operation of the secondary is blind to the ports. -/
theorem secondaryNeverTouchesPorts : Obligations.SecondaryNeverTouchesPorts :=
  fun _ s q0 q1 q2 hi => exec_portBlind hi q0 q1 q2 s

end Sys2Proof
end

section
/-! The port timers (R140 to R149): what T.ADV and T.EXPIRE do to each port, why no timer is left due, and which
instructions change a port. -/

namespace Sys2Proof.Machine

/-! ### Time advance -/

theorem timerDue_iff (now : Nat) (q : Port) : timerDue now q = true ↔ q.armed = true ∧ q.deadline ≤ now := by
  simp [timerDue]

theorem exec_tAdv (dt : Nat) (s : State) : exec (.tAdv dt) s = .next (setBlk (advanceTime dt s.blk) s) := rfl

@[simp] theorem getPort_advanceTime (dt : Nat) (b : Block) (p : PortId) :
    getPort (advanceTime dt b) p = expireIfDue (b.now + dt) (getPort b p) := by
  fin_cases p <;> rfl

/-- Under R142 the timer is not due yet. -/
theorem expireIfDue_of_inv {now : Nat} {q : Port} (h : PortInv now q) : expireIfDue now q = q := by
  obtain ⟨_, _, hdue⟩ := h
  refine if_neg fun hfires => ?_
  obtain ⟨harmed, hdeadline⟩ := (timerDue_iff now q).mp hfires
  exact absurd (hdue harmed) (Nat.not_lt.mpr hdeadline)

theorem advanceTime_zero_of_inv {b : Block} (h : BlockInv b) : advanceTime 0 b = b := by
  obtain ⟨h0, h1, h2, _⟩ := h
  simp only [advanceTime, mapPorts, Nat.add_zero, expireIfDue_of_inv h0, expireIfDue_of_inv h1,
    expireIfDue_of_inv h2]

/-- A timed handshake whose T_TIMEOUT has passed would leave a due timer, which R142 excludes. -/
theorem stage_eq_zero_of_timeout {now : Nat} {q : Port} (hinv : PortInv now q) (htimed : HandshakeTimed q)
    (hpast : q.lastToggle + Config.timeout ≤ now) : q.stage = 0 := by
  by_contra hstage
  obtain ⟨harmed, hdeadline⟩ := htimed hstage
  obtain ⟨_, _, hdue⟩ := hinv
  have hpending := hdue harmed
  omega

/-! ### Callbacks -/

theorem callbackValid_iff (now g : Nat) (q : Port) :
    callbackValid now g q = true ↔ q.armed = true ∧ g = q.gen ∧ g = q.tmrGen ∧ q.deadline ≤ now := by
  simp [callbackValid, and_assoc]

theorem exec_tExpire_val (p : PortId) (g : Nat) (s : State) :
    exec (.tExpire p.val g) s =
      updatePort p (fun q => if callbackValid s.blk.now g q then expireEffect q else q) s := by
  simp only [exec, execTExpire, portOperand_val]

theorem exec_tExpire_of_valid {p : PortId} {g : Nat} {s : State}
    (h : callbackValid s.blk.now g (getPort s.blk p) = true) :
    exec (.tExpire p.val g) s = .next (setBlk (setPort s.blk p (expireEffect (getPort s.blk p))) s) := by
  rw [exec_tExpire_val, updatePort, updateBlock, if_pos h]

theorem exec_tExpire_of_invalid {p : PortId} {g : Nat} {s : State}
    (h : callbackValid s.blk.now g (getPort s.blk p) = false) : exec (.tExpire p.val g) s = .next s := by
  rw [exec_tExpire_val, updatePort, updateBlock, h, if_neg Bool.false_ne_true, setPort_getPort]
  rfl

theorem exec_tExpire_badPort {k : Nat} (h : 3 ≤ k) (g : Nat) (s : State) :
    exec (.tExpire k g) s = .refused (.badPort k) := by
  simp only [exec, execTExpire, portOperand_of_three_le h]

/-! ### Which instructions name a port -/

@[simp] theorem writesPort_wbData (p p' : PortId) (v : Byte) : writesPort p' (wbData p v) = decide (p' = p) := by
  fin_cases p <;> rfl
@[simp] theorem writesPort_wwData (p p' : PortId) (w : Half) : writesPort p' (wwData p w) = decide (p' = p) := by
  fin_cases p <;> rfl
@[simp] theorem writesPort_wbCtrl (p p' : PortId) (v : Byte) : writesPort p' (wbCtrl p v) = decide (p' = p) := by
  fin_cases p <;> rfl
@[simp] theorem writesPort_wwCtrl (p p' : PortId) (w : Half) : writesPort p' (wwCtrl p w) = decide (p' = p) := by
  fin_cases p <;> rfl
@[simp] theorem writesPort_wbSerial (p p' : PortId) (v : Byte) : writesPort p' (wbSerial p v) = decide (p' = p) := by
  fin_cases p <;> rfl
@[simp] theorem writesPort_wwSerial (p p' : PortId) (w : Half) : writesPort p' (wwSerial p w) = decide (p' = p) := by
  fin_cases p <;> rfl

theorem writesPort_tExpire {k : Nat} {p : PortId} (hk : portOperand k = some p) (p' : PortId) (g : Nat) :
    writesPort p' (.tExpire k g) = decide (p' = p) := by
  simp [writesPort, hk, eq_comm]

/-- The effects that touch no port field leave every port. -/
theorem getPort_congr {b b' : Block} (h0 : b.port0 = b'.port0) (h1 : b.port1 = b'.port1)
    (h2 : b.port2 = b'.port2) (p : PortId) : getPort b p = getPort b' p := by
  fin_cases p
  · exact h0
  · exact h1
  · exact h2

/-- An effect on a port is a write or a callback that names it, or one of the four that reach every port. -/
theorem BlockEffect.keeps_port {i : Instr} {s : State} {b : Block} (h : BlockEffect i s b) {p : PortId}
    (hp : writesPort p i = false) (hadv : ∀ dt, i ≠ .tAdv dt) (hreset : i ≠ .hReset) (hpower : i ≠ .hPoweron)
    (hrestore : ∀ r, i ≠ .hRestore r) : getPort b p = getPort s.blk p := by
  cases h with
  | dataByte q | dataWord q | ctrlByte q | ctrlWord q | serialByte q | serialWord q =>
    exact getPort_setPort_ne (by simpa using hp) _ _
  | callback k g q _ hk =>
    rw [writesPort_tExpire hk, decide_eq_false_iff_not] at hp
    exact getPort_setPort_ne hp _ _
  | advance dt => exact absurd rfl (hadv dt)
  | hardReset => exact absurd rfl hreset
  | powerOn => exact absurd rfl hpower
  | restore => exact absurd rfl (hrestore b)
  | _ => exact getPort_congr rfl rfl rfl p

end Sys2Proof.Machine

namespace Sys2Proof

open Machine

/-- Settles O14: a stage past 0 would keep a due timer, and stage 0 shows the normal row. -/
theorem stageIsZeroAfterTheTimeout : Obligations.StageIsZeroAfterTheTimeout := by
  intro s p hinv htimed hpast
  have hstage := stage_eq_zero_of_timeout (blockInv_port hinv p) (s.timed_iff.mp htimed p) hpast
  exact ⟨hstage, fun k => pinLevel_of_normal (fun _ => by omega) _ k⟩

/-- Settles O23, by the effects an instruction can have on the block. -/
theorem portsAreIndependent : Obligations.PortsAreIndependent :=
  fun _ _ _ _ h hp hadv hreset hpower hrestore =>
    (exec_blockEffect h).keeps_port hp hadv hreset hpower hrestore

/-- Settles O26: the block after is `advanceTime`, which fires each due timer. -/
theorem timeAdvanceFiresDueTimers : Obligations.TimeAdvanceFiresDueTimers := by
  intro s dt
  refine ⟨advanceTime dt s.blk, exec_tAdv dt s, rfl, fun p => ?_⟩
  rw [getPort_advanceTime, expireIfDue]
  exact if_congr (timerDue_iff _ _) rfl rfl

/-- Settles O27: a port the block has acts on a valid callback alone, a number from 3 on names none. -/
theorem timerCallback : Obligations.TimerCallback := by
  intro s n g
  refine ⟨fun p hn => ?_, fun hn => exec_tExpire_badPort hn g s⟩
  subst hn
  rw [← callbackValid_iff]
  exact ⟨exec_tExpire_of_valid, fun hinvalid => exec_tExpire_of_invalid (Bool.eq_false_iff.mpr hinvalid)⟩

/-- Settles O28: under the invariant no timer is due, so neither an advance by 0 nor a callback fires one. -/
theorem noTimerIsLeftDue : Obligations.NoTimerIsLeftDue := by
  intro s n g hinv hn
  constructor
  · rw [exec_tAdv, advanceTime_zero_of_inv hinv]
    rfl
  · exact exec_tExpire_of_invalid (p := ⟨n, hn⟩) (callbackValid_false (blockInv_port hinv _))

end Sys2Proof
end

section
/-! Transitions in sequence (R148): while every gap stays below T_TIMEOUT no timer fires between two transitions, so
each transition takes the stage to its successor. -/

namespace Sys2Proof.Machine

/-- The port can make its next transition within the window: its line is an output, and past stage 0 the timer still
has the whole of T_TIMEOUT to run. -/
def InWindow (now : Nat) (q : Port) : Prop :=
  q.ctrl.getLsbD 6 = true ∧ (q.stage ≠ 0 → now + Config.timeout ≤ q.deadline)

/-- The byte `toggleSequence` writes: the select bit at the level other than `level`. -/
def toggleByte (level : Bool) : Byte := if level then 0x00 else 0x40

theorem toggleSequence_cons (p : PortId) (level : Bool) (gap : Nat) (gaps : List Nat) :
    toggleSequence p level (gap :: gaps) =
      .tAdv gap :: wbData p (toggleByte level) :: toggleSequence p (!level) gaps := rfl

theorem toggleByte_bit (level : Bool) : (toggleByte level).getLsbD 6 = !level := by
  cases level <;> rfl

/-- Within the window an advance fires at most a timer left armed at stage 0, and the stage stays. -/
theorem expireIfDue_of_inWindow {now gap : Nat} {q : Port} (hq : InWindow now q) (hgap : gap < Config.timeout) :
    let r := expireIfDue (now + gap) q
    r.ctrl = q.ctrl ∧ r.sel = q.sel ∧ r.stage = q.stage := by
  obtain ⟨_, hpending⟩ := hq
  unfold expireIfDue
  split
  · rename_i hfires
    obtain ⟨_, hdeadline⟩ := (timerDue_iff _ q).mp hfires
    have hstage : q.stage = 0 := by
      by_contra hne
      have hlater := hpending hne
      omega
    exact ⟨rfl, rfl, hstage.symm⟩
  · exact ⟨rfl, rfl, rfl⟩

/-- Writing the other level to an output line is one transition (R102, R110). -/
theorem writeData_toggleByte {q : Port} (hctrl : q.ctrl.getLsbD 6 = true) (timeout now : Nat) :
    writeData timeout now (toggleByte q.sel) q =
      selectTransition timeout now { q with data := toggleByte q.sel, sel := !q.sel } := by
  have hline : lineLevel q.ctrl (toggleByte q.sel) = !q.sel := by
    rw [lineLevel, if_pos hctrl, toggleByte_bit]
  obtain ⟨_, _, _, _, _, hmoved⟩ :=
    portWriteEpilogue_spec timeout now q { q with data := toggleByte q.sel }
  have hne : lineLevel q.ctrl (toggleByte q.sel) ≠ q.sel := by
    rw [hline]
    exact Bool.not_ne_self q.sel
  rw [writeData, hmoved hne, hline]

theorem execAll_cons {i : Instr} {s t : State} (h : exec i s = .next t) (is : List Instr) :
    execAll (i :: is) s = execAll is t := by
  simp only [execAll, h]

/-- One round of a toggle sequence: the line moves, the stage goes to its successor, and a new window opens. -/
theorem execAll_toggle {s : State} {p : PortId} {gap : Nat} (hs : InWindow s.blk.now (getPort s.blk p))
    (hgap : gap < Config.timeout) (is : List Instr) :
    ∃ t, execAll (.tAdv gap :: wbData p (toggleByte (getPort s.blk p).sel) :: is) s = execAll is t ∧
      InWindow t.blk.now (getPort t.blk p) ∧ (getPort t.blk p).sel = !(getPort s.blk p).sel ∧
      (getPort t.blk p).stage = nextStage (getPort s.blk p).stage := by
  obtain ⟨hctrl, hsel, hstage⟩ := expireIfDue_of_inWindow hs hgap
  obtain ⟨hout, _⟩ := hs
  rw [← hctrl] at hout
  have hwrite := writeData_toggleByte hout Config.timeout (s.blk.now + gap)
  refine ⟨_, (execAll_cons (exec_tAdv gap s) _).trans (execAll_cons (exec_wbData p _ _) is), ?_⟩
  simp only [setBlk_blk, setPort_now, getPort_setPort_self, getPort_advanceTime, advanceTime_now]
  rw [← hsel, ← hstage, hwrite]
  exact ⟨⟨hout, fun _ => Nat.le_refl _⟩, rfl, rfl⟩

/-- A toggle sequence takes the stage to its successor once for each gap. -/
theorem execAll_toggleSequence {p : PortId} {gaps : List Nat} (hgaps : ∀ g ∈ gaps, g < Config.timeout) {s : State}
    (hs : InWindow s.blk.now (getPort s.blk p)) :
    ∃ t, execAll (toggleSequence p (getPort s.blk p).sel gaps) s = .next t ∧
      (getPort t.blk p).stage = nextStage^[gaps.length] (getPort s.blk p).stage := by
  induction gaps generalizing s with
  | nil => exact ⟨s, rfl, rfl⟩
  | cons gap gaps ih =>
    obtain ⟨hgap, hgaps⟩ := List.forall_mem_cons.mp hgaps
    obtain ⟨u, hround, hu, hsel, hstage⟩ :=
      execAll_toggle hs hgap (toggleSequence p (!(getPort s.blk p).sel) gaps)
    obtain ⟨t, hrest, ht⟩ := ih hgaps hu
    rw [hsel] at hrest
    rw [hstage] at ht
    rw [toggleSequence_cons]
    exact ⟨t, hround.trans hrest, ht⟩

/-- From stage 0 the successors run through 1, 2, 3, 4 over and over (R111). -/
theorem nextStage_iterate_succ (k : Nat) : nextStage^[k + 1] 0 = k % 4 + 1 := by
  induction k with
  | zero => rfl
  | succ k ih =>
    rw [Function.iterate_succ_apply', ih, nextStage, Config.stageMax]
    split <;> omega

end Sys2Proof.Machine

namespace Sys2Proof

open Machine

/-- Settles O22, by induction on the gaps: each transition keeps the window open for the next. -/
theorem sixButtonSequenceHasPeriodFour : Obligations.SixButtonSequenceHasPeriodFour := by
  intro s p gaps _ hctrl hstage hgaps hne
  have hwindow : InWindow s.blk.now (getPort s.blk p) := ⟨hctrl, fun h => absurd hstage h⟩
  obtain ⟨t, hrun, ht⟩ := execAll_toggleSequence hgaps hwindow
  have hlength : gaps.length - 1 + 1 = gaps.length := Nat.sub_add_cancel (List.length_pos_iff.mpr hne)
  rw [hstage, ← hlength, nextStage_iterate_succ] at ht
  exact ⟨t, hrun, ht⟩

end Sys2Proof
end

section
/-! The arbiter (R161 to R168, R172, R223): the guards of its three events as conditions on the bits, what each event
and each control-register access does, and which accesses are blind to the reset line. -/

namespace Sys2Proof.Machine

/-! ### The guards -/

theorem secMayBegin_iff (b : Block) :
    secMayBegin b = true ↔ b.isReset = false ∧ b.busReq = false ∧ b.secBusy = false := by
  simp [secMayBegin, and_assoc]

theorem secMayBegin_eq_false_iff (b : Block) :
    secMayBegin b = false ↔ b.isReset = true ∨ b.busReq = true ∨ b.secBusy = true := by
  simp only [secMayBegin, Bool.and_eq_false_iff, Bool.not_eq_false', or_assoc]

theorem ackDue_iff (b : Block) : ackDue b = true ↔ b.busReq = true ∧ b.busAck = false ∧ b.secBusy = false := by
  simp [ackDue, and_assoc]

theorem ackDue_eq_false_iff (b : Block) :
    ackDue b = false ↔ b.busReq = false ∨ b.busAck = true ∨ b.secBusy = true := by
  simp only [ackDue, Bool.and_eq_false_iff, Bool.not_eq_false', or_assoc]

/-! ### The events -/

theorem exec_sBegin_of_mayBegin {s : State} (h : secMayBegin s.blk = true) :
    exec .sBegin s = .next (setBlk { s.blk with secBusy := true } s) := if_pos h

theorem exec_sBegin_held {s : State} (h : secMayBegin s.blk = false) : exec .sBegin s = .next s :=
  if_neg (Bool.eq_false_iff.mp h)

theorem exec_sEnd_of_busy {s : State} (h : s.blk.secBusy = true) :
    exec .sEnd s = .next (setBlk { s.blk with secBusy := false } s) := if_pos h

theorem exec_sEnd_of_idle {s : State} (h : s.blk.secBusy = false) : exec .sEnd s = .refused .endWithoutBegin :=
  if_neg (Bool.eq_false_iff.mp h)

theorem exec_arbAck_of_due {s : State} (h : ackDue s.blk = true) :
    exec .arbAck s = .next (setBlk { s.blk with busAck := true } s) := if_pos h

theorem exec_arbAck_held {s : State} (h : ackDue s.blk = false) : exec .arbAck s = .next s :=
  if_neg (Bool.eq_false_iff.mp h)

/-! ### The control registers -/

/-- A request of 1 keeps the grant as it is (R164). -/
theorem requestBus_true (b : Block) : requestBus true b = { b with busReq := true } := rfl

/-- A request of 0 takes the grant away with it (R164). -/
theorem requestBus_false (b : Block) : requestBus false b = { b with busReq := false, busAck := false } := rfl

theorem exec_pWbBusreq (v : Byte) (s : State) :
    exec (.pWbBusreq v) s = .next (setBlk (requestBus (v.getLsbD 0) s.blk) s) := rfl

theorem exec_pWwBusreq (w : Half) (s : State) :
    exec (.pWwBusreq w) s = .next (setBlk (requestBus (w.getLsbD 8) s.blk) s) := rfl

theorem exec_pRbBusreq (s : State) :
    exec .pRbBusreq s =
      .next (setResult (.byte (Config.draw7 s.draws ++ grantBit s.blk.busAck)) (tickDraws s)) := rfl

theorem exec_pRwBusreq (s : State) :
    exec .pRwBusreq s =
      .next (setResult (.word (lanes (Config.draw7 s.draws ++ grantBit s.blk.busAck) (Config.draw8 s.draws)))
        (tickDraws s)) := rfl

/-- Bit 0 of a bus-status byte is the negation of the grant, whatever is drawn above it (R166). -/
theorem statusByte_bit0 (d : BitVec 7) (a : Bool) : (d ++ grantBit a : BitVec 8).getLsbD 0 = !a := by
  rw [BitVec.getLsbD_append]
  cases a <;> rfl

/-- The byte reads that show nothing of the block (R167, R172). -/
theorem exec_readAnyByte {i : Instr} (hi : i ∈ [Instr.pRbReset, .pRbBusreqLo, .pRbResetLo]) (s : State) :
    exec i s = replyAnyByte s := by
  simp only [List.mem_cons, List.not_mem_nil, or_false] at hi
  obtain rfl | rfl | rfl := hi <;> rfl

/-- The odd-lane writes (R172). -/
theorem exec_writeControlLo {v : Byte} {i : Instr} (hi : i ∈ [Instr.pWbBusreqLo v, .pWbResetLo v]) (s : State) :
    exec i s = ignoreWrite v s := by
  simp only [List.mem_cons, List.not_mem_nil, or_false] at hi
  obtain rfl | rfl := hi <;> rfl

/-! ### Blindness to the reset line -/

/-- The operation neither reads nor writes IS_RESET: setting the line before it gives what setting it after gives. -/
def ResetBlind (f : State → Out) : Prop :=
  ∀ (r : Bool) (s : State), f (withIsReset r s) = mapNext (withIsReset r) (f s)

theorem resetBlind_replyAnyByte : ResetBlind replyAnyByte := fun _ _ => rfl

theorem resetBlind_replyAnyWord : ResetBlind replyAnyWord := fun _ _ => rfl

/-- A choice by the grant is blind when both branches are: the grant is another bit (R191). -/
theorem resetBlind_ite_busAck {f g : State → Out} (hf : ResetBlind f) (hg : ResetBlind g) :
    ResetBlind (fun s => if s.blk.busAck then f s else g s) := by
  intro r s
  have hack : (withIsReset r s).blk.busAck = s.blk.busAck := rfl
  simp only [hack, hf r s, hg r s, apply_ite (mapNext _)]

theorem resetBlind_whileGranted {f : State → Out} (hf : ResetBlind f) : ResetBlind (whileGranted f) :=
  resetBlind_ite_busAck hf (fun _ _ => rfl)

/-- Of the primary's accesses the bridge's choose by the grant, and but for the two reset writes the others name other
fields only (R167, R191). -/
theorem exec_resetBlind {i : Instr} (hkind : kindOf i = 0) (hbyte : ∀ v, i ≠ .pWbReset v)
    (hword : ∀ w, i ≠ .pWwReset w) : ResetBlind (exec i) := by
  cases i with
  | pWbReset v => exact absurd rfl (hbyte v)
  | pWwReset w => exact absurd rfl (hword w)
  | pWbSram | pWwSram | pWbSnd | pWwSnd => exact resetBlind_whileGranted (fun _ _ => rfl)
  | pRbSnd | pRwSnd => exact resetBlind_ite_busAck (fun _ _ => rfl) (fun _ _ => rfl)
  | sRbSram | sWbSram | sRbSnd | sWbSnd | sRbBank | sWbBank | sRbVdp | sWbVdp | sRbWin | sWbWin | sBegin | sEnd
  | arbAck | tAdv | tExpire | hReset | hPoweron | iPadset | hSave | hRestore => cases hkind
  | _ => exact fun _ _ => rfl

end Sys2Proof.Machine

namespace Sys2Proof

open Machine

/-- Settles O29: S.BEGIN acts under `secMayBegin` and is held otherwise. -/
theorem secondaryBeginGuard : Obligations.SecondaryBeginGuard := fun s =>
  ⟨fun hreset hreq hbusy => exec_sBegin_of_mayBegin ((secMayBegin_iff s.blk).mpr ⟨hreset, hreq, hbusy⟩),
    fun h => exec_sBegin_held ((secMayBegin_eq_false_iff s.blk).mpr h)⟩

/-- Settles O30, by SEC_BUSY. -/
theorem secondaryEnd : Obligations.SecondaryEnd := fun _ => ⟨exec_sEnd_of_busy, exec_sEnd_of_idle⟩

/-- Settles O31: ARB.ACK acts under `ackDue` and is held otherwise. -/
theorem grantAcknowledgment : Obligations.GrantAcknowledgment := fun s =>
  ⟨fun hreq hack hbusy => exec_arbAck_of_due ((ackDue_iff s.blk).mpr ⟨hreq, hack, hbusy⟩),
    fun h => exec_arbAck_held ((ackDue_eq_false_iff s.blk).mpr h)⟩

/-- Settles O32: both widths run `requestBus` on their bit, which gives one block for 1 and one for 0. -/
theorem busRequestWrite : Obligations.BusRequestWrite := fun s v w =>
  ⟨fun h => by rw [exec_pWbBusreq, h, requestBus_true, setBlk],
    fun h => by rw [exec_pWbBusreq, h, requestBus_false, setBlk],
    fun h => by rw [exec_pWwBusreq, h, requestBus_true, setBlk],
    fun h => by rw [exec_pWwBusreq, h, requestBus_false, setBlk]⟩

/-- Settles O33, by the grant's bit of the status byte and of the status word. -/
theorem busGrantStatusShowsTheGrant : Obligations.BusGrantStatusShowsTheGrant := fun s =>
  ⟨⟨_, _, exec_pRbBusreq s, statusByte_bit0 _ _⟩, ⟨_, _, exec_pRwBusreq s, statusWord_bit8 _ _ _⟩⟩

/-- Settles O34: both widths run `requestReset` on their bit. -/
theorem resetWrite : Obligations.ResetWrite := fun _ _ _ => ⟨rfl, rfl⟩

/-- Settles O35: the reads are replies of any value, which are blind to the reset line, and the writes are ignored. -/
theorem controlReadsOfAnyValue : Obligations.ControlReadsOfAnyValue := by
  intro s v
  refine ⟨fun i hi => ⟨_, _, exec_readAnyByte hi s, fun r => ?_⟩,
    ⟨_, _, rfl, fun r => resetBlind_replyAnyWord r s⟩, fun i hi => exec_writeControlLo hi s⟩
  rw [exec_readAnyByte hi]
  exact resetBlind_replyAnyByte r s

/-- Settles O36: every primary access but the two reset writes is blind to the reset line. -/
theorem primaryIsBlindToIsReset : Obligations.PrimaryIsBlindToIsReset :=
  fun _ s r hkind hbyte hword => exec_resetBlind hkind hbyte hword r s

/-- Settles O38, operation by operation: SEC_BUSY holds the first acknowledgment, BUS_REQ the next instruction, and the
status follows BUS_ACK. -/
theorem grantWaitsForTheInstruction : Obligations.GrantWaitsForTheInstruction := by
  intro s hbusy hack
  have hheld := (ackDue_eq_false_iff (requestBus true s.blk)).mpr (.inr (.inr hbusy))
  have hblocked := (secMayBegin_eq_false_iff { requestBus true s.blk with secBusy := false }).mpr (.inr (.inl rfl))
  have hdue := (ackDue_iff { requestBus true s.blk with secBusy := false }).mpr ⟨rfl, hack, rfl⟩
  refine ⟨_, _, _, _, _, _, _, exec_pWwBusreq 0x0100 s, exec_arbAck_held hheld, exec_pRwBusreq _, rfl, ?_,
    exec_sEnd_of_busy hbusy, exec_sBegin_held hblocked, exec_arbAck_of_due hdue, exec_pRwBusreq _, rfl, ?_⟩
  · rw [statusWord_bit8]
    exact congrArg not hack
  · exact statusWord_bit8 _ _ _

end Sys2Proof
end

section
/-! The bank register (R170, R171, R202): one shift, several shifts in a row, and the read that shifts nothing. -/

namespace Sys2Proof.Machine

theorem duringInstruction_of_busy {s : State} (h : s.blk.secBusy = true) (f : State → Out) :
    duringInstruction f s = f s := if_pos h

theorem duringInstruction_of_idle {s : State} (h : s.blk.secBusy = false) (f : State → Out) :
    duringInstruction f s = .refused .accessOutsideInstruction := if_neg (Bool.eq_false_iff.mp h)

theorem exec_sRbBank (a : BitVec 8) (s : State) : exec (.sRbBank a) s = duringInstruction replyAnyByte s := rfl

theorem exec_sWbBank_of_busy {s : State} (h : s.blk.secBusy = true) (a : BitVec 8) (v : Byte) :
    exec (.sWbBank a v) s = .next (setBlk (bankShift (v.getLsbD 0) s.blk) s) := duringInstruction_of_busy h _

/-- The block after shifts of these bits, the first one first. -/
def bankShifts : List Bool → Block → Block
  | [], b => b
  | bit :: bits, b => bankShifts bits (bankShift bit b)

theorem bankShifts_concat (bits : List Bool) (bit : Bool) (b : Block) :
    bankShifts (bits ++ [bit]) b = bankShift bit (bankShifts bits b) := by
  induction bits generalizing b with
  | nil => rfl
  | cons first bits ih => exact ih (bankShift first b)

/-- Bank-shift writes in a row, each at any address of the window, are shifts in a row: none of them ends the
instruction in flight. -/
theorem execAll_sWbBank {ι : Type} (a : ι → BitVec 8) (v : ι → Byte) (ks : List ι) {s : State}
    (h : s.blk.secBusy = true) :
    execAll (ks.map (fun k => .sWbBank (a k) (v k))) s =
      .next (setBlk (bankShifts (ks.map (fun k => (v k).getLsbD 0)) s.blk) s) := by
  induction ks generalizing s with
  | nil => rfl
  | cons k ks ih =>
    rw [List.map_cons, execAll_cons (exec_sWbBank_of_busy h (a k) (v k))]
    exact ih (s := setBlk (bankShift ((v k).getLsbD 0) s.blk) s) h

/-- Shifts change the bank register alone. -/
theorem bankShifts_frame (bits : List Bool) (b : Block) :
    bankShifts bits b = { b with
      bankSr := (bankShifts bits b).bankSr
      bankCount := (bankShifts bits b).bankCount
      bankBase := (bankShifts bits b).bankBase } := by
  induction bits generalizing b with
  | nil => rfl
  | cons bit bits ih => exact ih (bankShift bit b)

/-- The count saturates at 9 (R23, R170). -/
theorem bankShifts_bankCount (bit : Bool) (bits : List Bool) (b : Block) :
    (bankShifts (bit :: bits) b).bankCount = min (b.bankCount + (bits.length + 1)) 9 := by
  induction bits generalizing bit b with
  | nil => rfl
  | cons next bits ih =>
    rw [bankShifts, ih, bankShift_bankCount, List.length_cons]
    omega

/-- After a shift the base follows the register (R24), whatever it was before. -/
theorem bankShifts_bankBase {bits : List Bool} (hne : bits ≠ []) (b : Block) :
    (bankShifts bits b).bankBase = bankBaseOf (bankShifts bits b).bankSr := by
  obtain ⟨first, last, rfl⟩ := (List.eq_nil_or_concat' bits).resolve_left hne
  rw [bankShifts_concat]
  rfl

/-- Up to nine shifted bits stand at the top of the register, the oldest lowest (R170). -/
theorem bankShifts_bit (bits : List Bool) (b : Block) (hlength : bits.length ≤ 9) (k : Nat) (hk : k < bits.length) :
    (bankShifts bits b).bankSr.getLsbD (9 - bits.length + k) = bits[k] := by
  induction bits using List.reverseRecOn generalizing k with
  | nil => cases hk
  | append_singleton bits bit ih =>
    rw [List.length_append, List.length_singleton] at hlength hk ⊢
    rw [bankShifts_concat, bankShift_bit]
    rcases Nat.lt_succ_iff_lt_or_eq.mp hk with holder | rfl
    · have hindex : 9 - (bits.length + 1) + k + 1 = 9 - bits.length + k := by omega
      rw [if_neg (by omega), hindex, ih (by omega) k holder, List.getElem_append_left holder]
    · rw [if_pos (by omega), List.getElem_concat_length rfl]

/-- Nine shifts replace the whole register, bit k by the k-th bit shifted in (R170). -/
theorem bankShifts_nine (bits : Fin 9 → Bool) (b : Block) (k : Fin 9) :
    (bankShifts ((List.finRange 9).map bits) b).bankSr.getLsbD k = bits k := by
  have hbit := bankShifts_bit ((List.finRange 9).map bits) b (by simp) k (by simp)
  simpa using hbit

end Sys2Proof.Machine

namespace Sys2Proof

open Machine

/-- Settles O39: one write is `bankShift`, whose name the operation keeps; nine are nine shifts, which replace every
bit of the register. -/
theorem bankShiftWrite : Obligations.BankShift := by
  refine ⟨fun s a v hbusy => ?_, fun s a v hidle => duringInstruction_of_idle hidle _, fun s a v hbusy => ?_⟩
  · exact ⟨_, _, exec_sWbBank_of_busy hbusy a v, fun k => bankShift_bit _ _ k, bankBaseOf_toNat _⟩
  · have hrun := execAll_sWbBank a v (List.finRange 9) hbusy
    have hcount : (bankShifts ((List.finRange 9).map (fun k => (v k).getLsbD 0)) s.blk).bankCount = 9 :=
      (bankShifts_bankCount _ _ _).trans (Nat.min_eq_right (Nat.le_add_left 9 _))
    rw [bankShifts_frame, hcount, bankShifts_bankBase (by simp)] at hrun
    exact ⟨_, _, hrun, bankShifts_nine _ s.blk, bankBaseOf_toNat _⟩

/-- Settles O40: inside an instruction the read is a reply of any byte, outside it is refused. -/
theorem bankRead : Obligations.BankRead := fun s a =>
  ⟨fun hbusy => ⟨_, _, (exec_sRbBank a s).trans (duringInstruction_of_busy hbusy _)⟩,
    fun hidle => duringInstruction_of_idle hidle _⟩

end Sys2Proof
end

section
/-! The cross-bus bridge (R190 to R201): each path by its gate (the grant on the primary's side, the instruction in
flight on the secondary's) and the place its offset names. -/

namespace Sys2Proof.Machine

/-! ### The gates -/

theorem whileGranted_of_granted {s : State} (h : s.blk.busAck = true) (f : State → Out) :
    whileGranted f s = f s := if_pos h

theorem whileGranted_of_ungranted {s : State} (h : s.blk.busAck = false) (f : State → Out) :
    whileGranted f s = .next s := if_neg (Bool.eq_false_iff.mp h)

theorem exec_pRbSnd_of_granted {s : State} (h : s.blk.busAck = true) (off : BitVec 13) :
    exec (.pRbSnd off) s = readSound (soundRegister off) .byte s := if_pos h

theorem exec_pRbSnd_of_ungranted {s : State} (h : s.blk.busAck = false) (off : BitVec 13) :
    exec (.pRbSnd off) s = replyByte 0xFF s := if_neg (Bool.eq_false_iff.mp h)

theorem exec_pRwSnd_of_granted {s : State} (h : s.blk.busAck = true) (off : BitVec 13) :
    exec (.pRwSnd off) s = readSound (soundRegister off) (fun b => .word (lanes b b)) s := if_pos h

theorem exec_pRwSnd_of_ungranted {s : State} (h : s.blk.busAck = false) (off : BitVec 13) :
    exec (.pRwSnd off) s = replyWord 0xFFFF s := if_neg (Bool.eq_false_iff.mp h)

/-! ### The places an offset names -/

theorem soundRegister_toNat (off : BitVec 13) : (soundRegister off).toNat = off.toNat % 4 := by
  simp [soundRegister, BitVec.extractLsb'_toNat]

theorem vdpPort_toNat : ∀ off : BitVec 5, (vdpPort off).toNat = off.toNat / 2 * 2 := by
  decide

/-- The even address holds the high lane (R45, R198). -/
theorem vdpLane_eq (off : BitVec 5) (w : Half) :
    vdpLane off w = if off.toNat % 2 = 0 then w.extractLsb' 8 8 else w.extractLsb' 0 8 := by
  have hbit : off.getLsbD 0 = decide (off.toNat % 2 = 1) := Nat.testBit_zero off.toNat
  rcases Nat.mod_two_eq_zero_or_one off.toNat with h | h <;> simp only [vdpLane, hbit, h] <;> rfl

/-- Whatever the base is, the effective address is the sum in 24 bits (R43). -/
theorem windowEA_toNat_mod (base : BitVec 24) (off : BitVec 15) :
    (windowEA base off).toNat = (base.toNat + off.toNat) % 2 ^ 24 := by
  rw [windowEA, BitVec.toNat_add, BitVec.toNat_setWidth_of_le (by decide)]

/-! ### The window and the block's own addresses (R56) -/

theorem readWindow_inside {ea : PrimaryAddr} (h : OwnWindow ea.toNat) (s : State) :
    readWindow ea s = .refused (.windowIntoSelf ea) := if_pos ((inOwnWindow_iff ea).mpr h)

theorem readWindow_outside {ea : PrimaryAddr} (h : ¬ OwnWindow ea.toNat) (s : State) :
    readWindow ea s = .next (setResult (.byte (primaryAnswer s ea))
      (logAccess (.primaryRead ea (primaryAnswer s ea)) (tickDraws s))) :=
  if_neg (mt (inOwnWindow_iff ea).mp h)

theorem writeWindow_inside {ea : PrimaryAddr} (h : OwnWindow ea.toNat) (v : Byte) (s : State) :
    writeWindow ea v s = .refused (.windowIntoSelf ea) := if_pos ((inOwnWindow_iff ea).mpr h)

theorem writeWindow_outside {ea : PrimaryAddr} (h : ¬ OwnWindow ea.toNat) (v : Byte) (s : State) :
    writeWindow ea v s = .next (logAccess (.primaryWrite ea v) s) :=
  if_neg (mt (inOwnWindow_iff ea).mp h)

/-! ### The secondary's accesses as one form -/

theorem readWindow_refusal {ea : PrimaryAddr} {s : State} {r : Refusal} (h : readWindow ea s = .refused r) :
    r = .windowIntoSelf ea := by
  unfold readWindow at h
  split at h <;> cases h
  rfl

theorem writeWindow_refusal {ea : PrimaryAddr} {v : Byte} {s : State} {r : Refusal}
    (h : writeWindow ea v s = .refused r) : r = .windowIntoSelf ea := by
  unfold writeWindow at h
  split at h <;> cases h
  rfl

/-- Every secondary access is some operation behind the gate of R202, and the operation itself never gives the gate's
reason for a refusal. -/
theorem exec_secondaryAccess {i : Instr} (hi : kindOf i = 1) (s : State) :
    ∃ f : State → Out, exec i s = duringInstruction f s ∧ f s ≠ .refused .accessOutsideInstruction := by
  cases i with
  | sRbSram | sWbSram | sRbSnd | sWbSnd | sRbBank | sWbBank | sRbVdp | sWbVdp => exact ⟨_, rfl, nofun⟩
  | sRbWin => exact ⟨_, rfl, fun h => nomatch readWindow_refusal h⟩
  | sWbWin => exact ⟨_, rfl, fun h => nomatch writeWindow_refusal h⟩
  | _ => cases hi

end Sys2Proof.Machine

namespace Sys2Proof

open Machine

/-- Settles O43: the gate of R202 is the whole of the refusal for that reason. -/
theorem secondaryAccessNeedsAnInstruction : Obligations.SecondaryAccessNeedsAnInstruction := by
  intro i s hi
  obtain ⟨f, hgate, hf⟩ := exec_secondaryAccess hi s
  rw [hgate]
  exact ⟨fun hidle => duringInstruction_of_idle hidle f, fun hbusy => by rwa [duringInstruction_of_busy hbusy]⟩

/-- Settles O44: neither width looks at the arbiter, and the word is the byte in both lanes. -/
theorem primarySramRead : Obligations.PrimarySramRead := fun _ _ =>
  ⟨rfl, fun _ => ⟨_, rfl, lowLane_lanes _ _, highLane_lanes _ _⟩⟩

/-- Settles O45: both widths run one `sramWrite` behind the grant. -/
theorem primarySramWrite : Obligations.PrimarySramWrite := fun _ _ _ =>
  ⟨fun hack => ⟨_, whileGranted_of_granted hack _, fun _ => whileGranted_of_granted hack _,
      fun k => sramRead_sramWrite _ k _ _⟩,
    fun hack => ⟨whileGranted_of_ungranted hack _, fun _ => whileGranted_of_ungranted hack _⟩⟩

/-- Settles O46: with the grant both widths are one `readSound`, without it a reply of all ones. -/
theorem primarySoundRead : Obligations.PrimarySoundRead := fun _ off =>
  ⟨fun hack => ⟨_, _, _, soundRegister_toNat off, exec_pRbSnd_of_granted hack off,
      fun _ => ⟨_, _, _, exec_pRwSnd_of_granted hack off, lowLane_lanes _ _, highLane_lanes _ _⟩⟩,
    fun hack => ⟨exec_pRbSnd_of_ungranted hack off, fun _ => exec_pRwSnd_of_ungranted hack off⟩⟩

/-- Settles O47: both widths run one `writeSound` behind the grant. -/
theorem primarySoundWrite : Obligations.PrimarySoundWrite := fun _ off _ _ =>
  ⟨fun hack => ⟨_, soundRegister_toNat off, whileGranted_of_granted hack _,
      fun _ => whileGranted_of_granted hack _⟩,
    fun hack => ⟨whileGranted_of_ungranted hack _, fun _ => whileGranted_of_ungranted hack _⟩⟩

/-- Settles O48: read and `sramWrite` behind the gate of R202. -/
theorem secondarySram : Obligations.SecondarySram := fun _ _ _ =>
  ⟨fun hbusy => ⟨duringInstruction_of_busy hbusy _, _, duringInstruction_of_busy hbusy _,
      fun k => sramRead_sramWrite _ k _ _⟩,
    fun hidle => ⟨duringInstruction_of_idle hidle _, duringInstruction_of_idle hidle _⟩⟩

/-- Settles O49: `readSound` and `writeSound` behind the gate of R202, which does not look at the grant. -/
theorem secondarySound : Obligations.SecondarySound := fun _ off _ =>
  ⟨fun hbusy => ⟨_, _, _, soundRegister_toNat off, duringInstruction_of_busy hbusy _,
      duringInstruction_of_busy hbusy _⟩,
    fun hidle => ⟨duringInstruction_of_idle hidle _, duringInstruction_of_idle hidle _⟩⟩

/-- Settles O50: `readVdp` and `writeVdp` at the even port, whose lane the offset's parity picks. -/
theorem vdpRelay : Obligations.VdpRelay := by
  intro s off v
  refine ⟨fun hbusy => ⟨vdpAnswer s (vdpPort off), lanes v v, vdpPort off, s.draws + 1, vdpPort_toNat off, ?_,
      duringInstruction_of_busy hbusy _, highLane_lanes v v, lowLane_lanes v v⟩,
    fun hidle => ⟨duringInstruction_of_idle hidle _, duringInstruction_of_idle hidle _⟩⟩
  rw [← vdpLane_eq]
  exact duringInstruction_of_busy hbusy _

/-- Settles O51: behind the gate of R202, `readWindow` and `writeWindow` at the effective address. -/
theorem bankWindow : Obligations.BankWindow := by
  intro s off v
  refine ⟨fun hbusy => ⟨windowEA s.blk.bankBase off, windowEA_toNat_mod _ off, fun hown => ⟨?_, ?_⟩,
      fun hout => ⟨primaryAnswer s (windowEA s.blk.bankBase off), s.draws + 1, ?_, ?_⟩⟩,
    fun hidle => ⟨duringInstruction_of_idle hidle _, duringInstruction_of_idle hidle _⟩⟩
  · exact (duringInstruction_of_busy hbusy _).trans (readWindow_inside hown s)
  · exact (duringInstruction_of_busy hbusy _).trans (writeWindow_inside hown v s)
  · exact (duringInstruction_of_busy hbusy _).trans (readWindow_outside hout s)
  · exact (duringInstruction_of_busy hbusy _).trans (writeWindow_outside hout v s)

end Sys2Proof
end

section
/-! The record of device accesses and the draw counter (R50, R203, log entries 6 and 9), over every instruction. -/

namespace Sys2Proof.Machine

/-- From `s` to `t` the record of accesses has stayed as it was, or has got one more where one is `allowed`, and the
draw counter has not gone back. -/
def RecordMoves (allowed : Prop) (s t : State) : Prop :=
  (t.external = s.external ∨ allowed ∧ ∃ e, t.external = s.external ++ [e]) ∧ s.draws ≤ t.draws

/-- Ten instructions reach a device, with one access each: four of the primary, behind the grant, and six of
the secondary. Every other instruction leaves the record alone. -/
theorem exec_recordMoves {i : Instr} {s t : State} (h : exec i s = .next t) :
    RecordMoves (kindOf i = 0 → s.blk.busAck = true) s t := by
  cases i with
  | pRbSnd | pRwSnd =>
    rcases ite_eq_iff.mp h with ⟨hack, h⟩ | ⟨_, h⟩ <;> cases h
    · exact ⟨.inr ⟨fun _ => hack, _, rfl⟩, Nat.le_succ _⟩
    · exact ⟨.inl rfl, Nat.le_refl _⟩
  | pWbSnd | pWwSnd =>
    rcases whileGranted_next h with ⟨hack, h⟩ | ⟨_, rfl⟩
    · cases h
      exact ⟨.inr ⟨fun _ => hack, _, rfl⟩, Nat.le_refl _⟩
    · exact ⟨.inl rfl, Nat.le_refl _⟩
  | sRbSnd | sRbVdp =>
    cases (duringInstruction_next h).2
    exact ⟨.inr ⟨nofun, _, rfl⟩, Nat.le_succ _⟩
  | sWbSnd | sWbVdp =>
    cases (duringInstruction_next h).2
    exact ⟨.inr ⟨nofun, _, rfl⟩, Nat.le_refl _⟩
  | sRbWin =>
    rw [(readWindow_next (duringInstruction_next h).2).2]
    exact ⟨.inr ⟨nofun, _, rfl⟩, Nat.le_succ _⟩
  | sWbWin =>
    rw [(writeWindow_next (duringInstruction_next h).2).2]
    exact ⟨.inr ⟨nofun, _, rfl⟩, Nat.le_refl _⟩
  | pWbSram | pWwSram =>
    rcases whileGranted_next h with ⟨_, h⟩ | ⟨_, rfl⟩
    · cases h
      exact ⟨.inl rfl, Nat.le_refl _⟩
    · exact ⟨.inl rfl, Nat.le_refl _⟩
  | sRbBank =>
    cases (duringInstruction_next h).2
    exact ⟨.inl rfl, Nat.le_succ _⟩
  | sRbSram | sWbSram | sWbBank =>
    cases (duringInstruction_next h).2
    exact ⟨.inl rfl, Nat.le_refl _⟩
  | sBegin | sEnd | arbAck | hRestore =>
    rcases ite_eq_iff.mp h with ⟨_, h⟩ | ⟨_, h⟩ <;> cases h <;> exact ⟨.inl rfl, Nat.le_refl _⟩
  | tExpire =>
    simp only [exec, execTExpire] at h
    split at h <;> cases h
    exact ⟨.inl rfl, Nat.le_refl _⟩
  | iPadset =>
    simp only [exec, execIPadset] at h
    split at h <;> cases h
    exact ⟨.inl (setPad_external _ _ s), (setPad_draws _ _ s).ge⟩
  | _ =>
    injection h with h
    subst h
    exact ⟨.inl rfl, by simp⟩

end Sys2Proof.Machine

namespace Sys2Proof

open Machine

/-- Settles O54, by whether the operation made an access. -/
theorem primaryDeviceAccessNeedsTheGrant : Obligations.PrimaryDeviceAccessNeedsTheGrant := by
  intro i s t h
  obtain ⟨hsame | ⟨hallowed, e, hlogged⟩, hdraws⟩ := exec_recordMoves h
  · exact ⟨[], by rw [hsame, List.append_nil], Nat.zero_le 1, fun _ _ => rfl, hdraws⟩
  · have hgranted (hkind : kindOf i = 0) : s.blk.busAck ≠ false := by rw [hallowed hkind]; decide
    exact ⟨[e], hlogged, Nat.le_refl 1, fun hkind hack => absurd hack (hgranted hkind), hdraws⟩

end Sys2Proof
end

section
/-! The host's events over the whole block (R251, R262, R263), and the boot sequence of the secondary (R253). -/

namespace Sys2Proof.Machine

/-! ### Hardware reset, save and restore -/

/-- A hardware reset cancels the timer by giving the port its next generation (R145, R251). -/
theorem hardwareResetPort_eq (q : Port) : hardwareResetPort q = clearedPort (q.gen + 1) := rfl

@[simp] theorem getPort_hardwareResetBlock (b : Block) (p : PortId) :
    getPort (hardwareResetBlock b) p = hardwareResetPort (getPort b p) := by
  fin_cases p <;> rfl

theorem exec_hReset (s : State) : exec .hReset s = .next (setBlk (hardwareResetBlock s.blk) s) := rfl

theorem exec_hSave (s : State) : exec .hSave s = .next (setResult (.saved s.blk) s) := rfl

theorem exec_hRestore_of_inv {r : Block} (h : BlockInv r) (s : State) :
    exec (.hRestore r) s = .next (setBlk r s) := if_pos ((blockConsistent_iff r).mpr h)

theorem exec_hRestore_of_not_inv {r : Block} (h : ¬ BlockInv r) (s : State) :
    exec (.hRestore r) s = .refused .inconsistentRestore := if_neg (mt (blockConsistent_iff r).mp h)

/-- A state already holds its own block. -/
@[simp] theorem setBlk_self (s : State) : setBlk s.blk s = s := rfl

/-! ### The operations of the boot sequence -/

/-- With the bus requested and no instruction in flight ARB.ACK ends with the grant given: it gives it, or is held
because it is given already (R165, R223, log entry 4). -/
theorem exec_arbAck_of_requested {s : State} (hreq : s.blk.busReq = true) (hidle : s.blk.secBusy = false) :
    exec .arbAck s = .next (setBlk { s.blk with busAck := true } s) := by
  cases hack : s.blk.busAck with
  | false => exact exec_arbAck_of_due ((ackDue_iff _).mpr ⟨hreq, hack, hidle⟩)
  | true => rw [exec_arbAck_held ((ackDue_eq_false_iff _).mpr (.inr (.inl hack))), ← hack, setBlk_self]

theorem exec_pWbSram_of_granted {s : State} (h : s.blk.busAck = true) (off : BitVec 14) (v : Byte) :
    exec (.pWbSram off v) s = .next (setBlk (sramWrite (sramIndex off) v s.blk) s) := whileGranted_of_granted h _

theorem exec_pWwReset (w : Half) (s : State) :
    exec (.pWwReset w) s = .next (setBlk (requestReset (w.getLsbD 8) s.blk) s) := rfl

theorem exec_sRbSram_of_busy {s : State} (h : s.blk.secBusy = true) (off : BitVec 14) :
    exec (.sRbSram off) s = .next (setResult (.byte (sramRead s.blk (sramIndex off))) s) :=
  duringInstruction_of_busy h _

/-- A request and its acknowledgment give the grant, whether it was given before or not (R164, R165). -/
theorem execAll_takeBus {s : State} (hidle : s.blk.secBusy = false) (is : List Instr) :
    execAll (.pWwBusreq 0x0100 :: .arbAck :: is) s =
      execAll is (setBlk { s.blk with busReq := true, busAck := true } s) := by
  have hack := exec_arbAck_of_requested (s := setBlk (requestBus true s.blk) s) rfl hidle
  exact (execAll_cons (exec_pWwBusreq 0x0100 s) _).trans (execAll_cons hack is)

/-- Once reset and bus are released nothing holds S.BEGIN (R162, R164, R168). -/
theorem execAll_startSecondary {s : State} (hidle : s.blk.secBusy = false) (is : List Instr) :
    execAll (.pWwReset 0x0100 :: .pWwBusreq 0x0000 :: .sBegin :: is) s =
      execAll is (setBlk { s.blk with isReset := false, busReq := false, busAck := false, secBusy := true } s) := by
  have hmay := (secMayBegin_iff (requestBus false (requestReset true s.blk))).mpr ⟨rfl, rfl, hidle⟩
  have hbegin := exec_sBegin_of_mayBegin (s := setBlk (requestBus false (requestReset true s.blk)) s) hmay
  exact (execAll_cons (exec_pWwReset 0x0100 s) _).trans <|
    (execAll_cons (exec_pWwBusreq 0x0000 _) _).trans (execAll_cons hbegin is)

/-- A byte written is what every mirror of its offset reads (R54). -/
theorem sramRead_sramWrite_mirror {off off' : BitVec 14} (h : off.toNat % 0x2000 = off'.toNat % 0x2000) (v : Byte)
    (b : Block) : sramRead (sramWrite (sramIndex off) v b) (sramIndex off') = v := by
  rw [sramRead_sramWrite]
  exact if_pos h.symm

end Sys2Proof.Machine

namespace Sys2Proof

open Machine

/-- Settles O55: the primary takes the bus and writes the byte, the secondary starts and fetches it inside an
instruction, and in between nothing touches SharedRAM. -/
theorem bootLoadsTheSecondary : Obligations.BootLoadsTheSecondary := by
  intro s off off' v hidle hmirror
  rw [execAll_takeBus hidle, execAll_cons (exec_pWbSram_of_granted rfl off v), execAll_startSecondary,
    execAll_cons (exec_sRbSram_of_busy rfl off')]
  · exact ⟨_, rfl, congrArg Result.byte (sramRead_sramWrite_mirror hmirror v _)⟩
  · exact hidle

/-- Settles O58: the block after is `hardwareResetBlock`, which clears each port under its next generation. -/
theorem hardwareReset : Obligations.HardwareReset := fun s =>
  ⟨_, exec_hReset s, rfl, fun p => by rw [getPort_hardwareResetBlock, hardwareResetPort_eq]⟩

/-- Settles O59: the check of H.RESTORE is the invariant, which the record just saved meets. -/
theorem saveAndRestore : Obligations.SaveAndRestore := by
  refine ⟨exec_hSave, fun s r => ⟨fun h => exec_hRestore_of_inv h s, fun h => exec_hRestore_of_not_inv h s⟩, ?_⟩
  intro s t hinv hsave
  cases (exec_hSave s).symm.trans hsave
  exact ⟨s.blk, rfl, exec_hRestore_of_inv hinv _⟩

end Sys2Proof
end
